-- ==== Sys2Proof/Word.lean ====
section
/-! DEFINITION. The word types of the block (00_scope.md R7): a byte of the wire, of a buffer or of a flags
field is 8 bits, a length or capacity 16 bits, a host register 32 bits. All values are unsigned (R8). -/

namespace Sys2Proof

/-- A wire byte, a payload byte, a flags field, an operand field of a command word (R7, R101). -/
abbrev Byte := BitVec 8

/-- A packet length or capacity, `TX_POS`, `RX_SIZE`, `RX_REM`, `LEN` (R7). -/
abbrev Half := BitVec 16

/-- A host register or a command word (R7, R42, R100). -/
abbrev Word := BitVec 32

end Sys2Proof
end

