-- ==== Sys2Proof/Syntax.lean ====
section
/-! DEFINITION. The commands of the block, one constructor per row of the opcode map (30_encoding.md R103). An operand
is the field of the command word the row uses, as a byte (R102); `LEN` and `ADDR` are read from the argument registers
at the step and are no part of the word. -/

namespace Sys2Proof

/-- A command. `usage`, `flags` and `bit` keep only the bits of B that the command uses (R106): see `Instr.wf`. -/
inductive Instr where
  /-- 0x00 NOP (R302). -/
  | nop
  /-- 0x01 START_OUTGOING, `usage` = B[1:0] (R161). -/
  | startOutgoing (usage : Byte)
  /-- 0x02 APPEND_BYTE, `b` = B (R164). -/
  | appendByte (b : Byte)
  /-- 0x03 APPEND_INFER, `b` = B (R165). -/
  | appendInfer (b : Byte)
  /-- 0x04 FLUSH (R166). -/
  | flush
  /-- 0x10 QUEUE_TX, `h` = A, `flags` = B[3:0] (R261). -/
  | queueTx (h flags : Byte)
  /-- 0x11 ARM_RX, `h` = A (R262). -/
  | armRx (h : Byte)
  /-- 0x12 IS_TX_DONE, `h` = A (R263). -/
  | isTxDone (h : Byte)
  /-- 0x13 IS_RX_DONE, `h` = A (R264). -/
  | isRxDone (h : Byte)
  /-- 0x14 RELEASE, `h` = A (R265). -/
  | release (h : Byte)
  /-- 0x20 RX_COLLECT (R290). -/
  | rxCollect
  /-- 0x21 RX_READ_BYTE, `i` = A (R291). -/
  | rxReadByte (i : Byte)
  /-- 0x22 RX_FREE, `i` = A (R292). -/
  | rxFree (i : Byte)
  /-- 0x30 SET_ACTIVE, `bit` = B[0] (R300). -/
  | setActive (bit : Byte)
  /-- 0x31 QUERY_ACTIVE (R301). -/
  | queryActive
  deriving DecidableEq, Repr

end Sys2Proof
end

