-- ==== Sys2Proof/WellFormed.lean ====
section
/-! DEFINITION. Which terms of `Instr` are commands a word can stand for: an operand that uses part of B holds nothing
outside the bits used (30_encoding.md R103, R106). Every other operand is a whole byte and needs no check; a handle or
slot number out of range is a legal operand with a defined outcome (BAD_HANDLE, R260). -/

namespace Sys2Proof

/-- The well-formed commands: `usage` fits B[1:0], `flags` fits B[3:0], `bit` fits B[0]. -/
def Instr.wf : Instr → Bool
  | .startOutgoing usage => decide (usage.toNat < 4)
  | .queueTx _ flags => decide (flags.toNat < 16)
  | .setActive bit => decide (bit.toNat < 2)
  | .nop => true
  | .appendByte _ => true
  | .appendInfer _ => true
  | .flush => true
  | .armRx _ => true
  | .isTxDone _ => true
  | .isRxDone _ => true
  | .release _ => true
  | .rxCollect => true
  | .rxReadByte _ => true
  | .rxFree _ => true
  | .queryActive => true

end Sys2Proof
end

