-- ==== Sys2Proof/Decode.lean ====
section
/-! DEFINITION. Command words: the decoder and the encoder, both written from 30_encoding.md R101, R103 to R106. -/

namespace Sys2Proof

/-- Why a word is not a command; each is answered with ILLEGAL (R303). -/
inductive Reject where
  /-- RSV, bits [31:24], is not zero (R104). -/
  | reservedBits
  /-- OP is not in the opcode map (R105). -/
  | illegalOpcode (op : Byte)
  /-- Fewer than four bytes were given: there is one length, one 32-bit word (R100). -/
  | truncated
  deriving DecidableEq, Repr

/-- OP, bits [7:0] (R101). -/
def fieldOP (w : Word) : Byte := w.extractLsb' 0 8
/-- A, bits [15:8] (R101). -/
def fieldA (w : Word) : Byte := w.extractLsb' 8 8
/-- B, bits [23:16] (R101). -/
def fieldB (w : Word) : Byte := w.extractLsb' 16 8
/-- RSV, bits [31:24] (R101). -/
def fieldRSV (w : Word) : Byte := w.extractLsb' 24 8

/-- B[1:0], the usage class of START_OUTGOING; B[7:2] is ignored (R106, R161). -/
def usageOfB (b : Byte) : Byte := b &&& 0x03
/-- B[3:0], the USAGE, FIRST and LAST bits of QUEUE_TX; B[7:4] is ignored (R106, R261). -/
def flagsOfB (b : Byte) : Byte := b &&& 0x0F
/-- B[0], the bit of SET_ACTIVE; B[7:1] is ignored (R106, R300). -/
def bitOfB (b : Byte) : Byte := b &&& 0x01

/-- The command a word stands for. A word with RSV not zero is no command whatever its OP (R104); then OP alone
selects the row (R106), and an OP outside the map is illegal (R105). -/
def decode (w : Word) : Except Reject Instr :=
  if fieldRSV w ≠ 0 then .error .reservedBits
  else if fieldOP w = 0x00 then .ok .nop
  else if fieldOP w = 0x01 then .ok (.startOutgoing (usageOfB (fieldB w)))
  else if fieldOP w = 0x02 then .ok (.appendByte (fieldB w))
  else if fieldOP w = 0x03 then .ok (.appendInfer (fieldB w))
  else if fieldOP w = 0x04 then .ok .flush
  else if fieldOP w = 0x10 then .ok (.queueTx (fieldA w) (flagsOfB (fieldB w)))
  else if fieldOP w = 0x11 then .ok (.armRx (fieldA w))
  else if fieldOP w = 0x12 then .ok (.isTxDone (fieldA w))
  else if fieldOP w = 0x13 then .ok (.isRxDone (fieldA w))
  else if fieldOP w = 0x14 then .ok (.release (fieldA w))
  else if fieldOP w = 0x20 then .ok .rxCollect
  else if fieldOP w = 0x21 then .ok (.rxReadByte (fieldA w))
  else if fieldOP w = 0x22 then .ok (.rxFree (fieldA w))
  else if fieldOP w = 0x30 then .ok (.setActive (bitOfB (fieldB w)))
  else if fieldOP w = 0x31 then .ok .queryActive
  else .error (.illegalOpcode (fieldOP w))

/-- `(RSV << 24) | (B << 16) | (A << 8) | OP` with RSV = 0 (R101). -/
def assemble (b a op : Byte) : Word := (0 : Byte) ++ b ++ a ++ op

/-- The command word of a command; a field the command does not use is 0 (R103, R107). -/
def encode : Instr → Word
  | .nop => assemble 0 0 0x00
  | .startOutgoing usage => assemble usage 0 0x01
  | .appendByte b => assemble b 0 0x02
  | .appendInfer b => assemble b 0 0x03
  | .flush => assemble 0 0 0x04
  | .queueTx h flags => assemble flags h 0x10
  | .armRx h => assemble 0 h 0x11
  | .isTxDone h => assemble 0 h 0x12
  | .isRxDone h => assemble 0 h 0x13
  | .release h => assemble 0 h 0x14
  | .rxCollect => assemble 0 0 0x20
  | .rxReadByte i => assemble 0 i 0x21
  | .rxFree i => assemble 0 i 0x22
  | .setActive bit => assemble bit 0 0x30
  | .queryActive => assemble 0 0 0x31

/-- A word from its four bytes in the window's order: the byte at offset +n holds bits [8n+7:8n] (20_memory.md R79). -/
def wordOfBytes (b0 b1 b2 b3 : Byte) : Word := b3 ++ b2 ++ b1 ++ b0

/-- The four bytes of a word in the window's order (R79). -/
def bytesOfWord (w : Word) : List Byte := [fieldOP w, fieldA w, fieldB w, fieldRSV w]

/-- The command the first four bytes stand for, and the bytes after them; fewer than four are rejected. -/
def decodeBytes : List Byte → Except Reject (Instr × List Byte)
  | b0 :: b1 :: b2 :: b3 :: rest =>
    match decode (wordOfBytes b0 b1 b2 b3) with
    | .ok i => .ok (i, rest)
    | .error r => .error r
  | _ => .error .truncated

/-- The 32-bit word whose low `nbits` bits are those of `w`, every bit above them 0. -/
def tableWord (nbits w : Nat) : Word := BitVec.ofNat 32 (w % 2 ^ nbits)

/-- What the decoder reads from an instruction whose bits are `w`, numbered as the opcode table numbers them. -/
def decodeTableWord (nbits w : Nat) : Option Instr :=
  match decodeBytes (bytesOfWord (tableWord nbits w)) with
  | .ok (i, _) => some i
  | .error _ => none

end Sys2Proof
end

