-- ==== Sys2Proof/Config.lean ====
section
/-! DEFINITION. What a launch fixes (the parameters of 00_scope.md R6 and `REG_BASE`), the draws of the model's
oracle, and the free values: constants with no body, so that nothing can be proved about a value of theirs. -/

namespace Sys2Proof

/-- The parameters of a launch (R6, R77, R366): counts of slots, driver capacity, host address width, and the base
address of the register window. -/
structure Params where
  nDrv    : Nat
  drvCap  : Nat
  nApp    : Nat
  addrW   : Nat
  regBase : Nat
  deriving DecidableEq, Repr

/-- The legal ranges of R6. `REG_BASE` is open (R77). -/
abbrev Params.Legal (p : Params) : Prop :=
  (1 ≤ p.nDrv ∧ p.nDrv ≤ 255) ∧ (1 ≤ p.drvCap ∧ p.drvCap ≤ 65535) ∧ (1 ≤ p.nApp ∧ p.nApp ≤ 256) ∧
    (1 ≤ p.addrW ∧ p.addrW ≤ 32)

/-- The defaults of R6 for the test vectors. DESIGN CHOICE (log entry 1): the spec names no `REG_BASE`; this one lies
just past the default host memory, so that no buffer address falls in the window. Unsafe: a statement about this
launch only would lean on the numbers. -/
def Params.default : Params :=
  { nDrv := 4, drvCap := 32, nApp := 16, addrW := 24, regBase := 0x1000000 }

/-- A range of host addresses the launch memory admits (20_memory.md R73, R74, R366). -/
structure Region where
  base : Nat
  size : Nat
  deriving DecidableEq, Repr

/-- Who moves next (R11, R332): one draw of the oracle. `linkByte`: LINK presents its next received byte (R327).
`linkReady r`: LINK sets its transmit-ready level to `r` (R329). `reset`: the platform resets the block (R351). -/
inductive Draw where
  | fg
  | rxe
  | txe
  | linkByte
  | linkReady (ready : Bool)
  | reset
  deriving DecidableEq, Repr, Inhabited

/-- Free value: the oracle's `n`-th draw where the schedule in the state says nothing (R330, R332; log entry 2). -/
opaque Config.draw : Nat → Draw

/-- Free value: what host memory holds at an address nothing has written (R73, "a model takes it from its memory
oracle"; log entry 7). -/
opaque Config.launchByte : Nat → Byte

/-- Free value: the byte at offset `k` of driver buffer `i` that nothing has written since reset number `epoch`
(R51, "an unknown value"; log entry 9). -/
opaque Config.dbufByte : (epoch i k : Nat) → Byte

/-- Free value: the byte of the foreground's `n`-th access to host memory whose outcome the spec leaves open: a race with
an engine (R86, I6; log entry 10), or a read where the launch memory admits none (log entry 22). -/
opaque Config.openByte : Nat → Byte

end Sys2Proof
end

