-- ==== Sys2Proof/Machine/State.lean ====
section
/-! DEFINITION. The state of the block and of what surrounds it, as plain data (10_state.md; 70_reset_and_hazards.md
R366), and the state after reset (R51, R350). -/

namespace Sys2Proof.Machine

/-- A memory: (address, byte) pairs, addresses strictly rising. An address not listed holds no byte the model knows:
whoever reads it says what it gets (a free value, log entries 7 and 9). -/
abbrev Memory := List Host.Cell

/-- The canonical form: addresses strictly rising. An unlisted address has no value, so no entry can equal it. -/
abbrev Memory.wf (m : Memory) : Prop := m.Pairwise (fun c d => c.1 < d.1)

/-- A packet id (R20): `DRV(i)` or `APP(h)`; the two kinds never name the same slot. -/
inductive PktId where
  | drv (i : Nat)
  | app (h : Nat)
  deriving DecidableEq, Repr

/-- A driver packet slot (R22, R27). Its capacity is the constant `DRV_CAP`; `buf` is `DBUF(i)` (20_memory.md R70). -/
structure DrvPkt where
  flags  : Byte
  length : Half
  buf    : Memory
  deriving DecidableEq, Repr

/-- An application packet slot (R22, R28). `buffer` is a host address of `ADDR_W` bits; `index` is read-only. -/
structure AppPkt where
  flags    : Byte
  capacity : Half
  length   : Half
  buffer   : Word
  index    : Byte
  deriving DecidableEq, Repr

/-- Builder state (R32): `BLD_PKT`, `BLD_CARRY`, `BLD_CONT`. -/
structure Builder where
  pkt   : Option Nat
  carry : BitVec 2
  cont  : Bool
  deriving DecidableEq, Repr

/-- `TX_STATE` (R34); a state is named after the last byte written. Codes 9 to 15 are not used. -/
inductive TxState where
  | idle
  | sentStart
  | sentFlags
  | sentIndex
  | sentSize1
  | sentSize2
  | sentData
  | sentEsc
  | sentAllData
  deriving DecidableEq, Repr

/-- Transmit engine registers (R31, R33): `TX_STATE`, `TX_PKT`, `TX_POS`, `TX_LIT`. -/
structure TxEngine where
  state : TxState
  pkt   : Option PktId
  pos   : Half
  lit   : Byte
  deriving DecidableEq, Repr

/-- `RX_STATE` (R36); a state is named after the byte expected next. -/
inductive RxState where
  | awaitStart
  | awaitFlags
  | awaitIndex
  | awaitSize1
  | awaitSize2
  | awaitDataEsc
  | awaitData
  | awaitEnd
  deriving DecidableEq, Repr

/-- Receive engine registers (R31, R35): `RX_STATE`, `RX_PKT`, `RX_FLAGS`, `RX_SIZE`, `RX_REM`. -/
structure RxEngine where
  state : RxState
  pkt   : Option PktId
  flags : Byte
  size  : Half
  rem   : Half
  deriving DecidableEq, Repr

/-- The host registers that hold a value (R44 to R47): ARG_LEN, ARG_ADDR, RESULT, RESULT_LEN. CMD holds none (R43) and
STATUS is a view (R48). -/
structure HostRegs where
  argLen    : Half
  argAddr   : Word
  result    : Word
  resultLen : Half
  deriving DecidableEq, Repr

/-- Status codes of RESULT.ST (R50). -/
inductive Status where
  | ok
  | unavailable
  | busy
  | badHandle
  | illegal
  | empty
  | badArg
  deriving DecidableEq, Repr

/-- One access of the foreground (30_encoding.md R107, R108; 20_memory.md R86). -/
inductive HostOp where
  /-- A write of `size` bytes at host address `addr` of the register window. -/
  | regWrite (addr size : Nat) (v : Word)
  /-- A read of `size` bytes at host address `addr` of the register window. -/
  | regRead (addr size : Nat)
  /-- A foreground write of one byte at a host address. -/
  | poke (addr : Nat) (b : Byte)
  /-- A foreground read of one byte at a host address. -/
  | peek (addr : Nat)
  /-- The loop POLL_TX_DONE h, at its IS_TX_DONE. -/
  | pollTx (h : Byte)
  /-- The loop POLL_TX_DONE h, at its read of RESULT. -/
  | pollTxRead (h : Byte)
  /-- The loop POLL_RX_DONE h, at its IS_RX_DONE. -/
  | pollRx (h : Byte)
  /-- The loop POLL_RX_DONE h, at its read of RESULT. -/
  | pollRxRead (h : Byte)
  deriving DecidableEq, Repr

/-- The foreground (R11, R43): the CMD write that has not completed, if any (while it stands, nothing else is issued);
the accesses still to come; and the words it has read so far, in order (the model's own record, log entry 18). -/
structure Foreground where
  cmdPort : Option Word
  ops     : List HostOp
  seen    : List Word
  deriving DecidableEq, Repr

/-- LINK (60_exceptions.md R327 to R329): the byte presented to RXE (`rx_valid` is that there is one), the bytes still
to be presented, the level `tx_ready`, and the bytes TXE has emitted, in order. -/
structure Link where
  rxData   : Option Byte
  incoming : List Byte
  txReady  : Bool
  wire     : List Byte
  deriving DecidableEq, Repr

/-- What a launch fixes and no step changes (R6, R77, R366): `DRV_CAP`, `ADDR_W`, `REG_BASE` and the host addresses
the launch memory admits. `N_DRV` and `N_APP` are the lengths of the two packet tables. -/
structure Launch where
  drvCap  : Nat
  addrW   : Nat
  regBase : Nat
  ram     : List Region
  deriving DecidableEq, Repr

/-- The model's oracle (R332; log entry 2): the draws to come as far as they are given, and how many free draws have
been taken. -/
structure Oracle where
  sched : List Draw
  draws : Nat
  deriving DecidableEq, Repr

/-- The whole state. -/
structure State where
  /-- the launch's constants -/
  cfg    : Launch
  /-- the driver packet table (R21) -/
  drv    : List DrvPkt
  /-- the application packet table (R28) -/
  app    : List AppPkt
  /-- FREEQ, driver slot numbers, head first (R30) -/
  freeq  : List Nat
  /-- TXQ, packet ids, head first (R30) -/
  txq    : List PktId
  /-- RXQ, driver slot numbers, head first (R30) -/
  rxq    : List Nat
  /-- the builder (R32) -/
  bld    : Builder
  /-- the transmit engine (R33) -/
  tx     : TxEngine
  /-- TXIE (R37) -/
  txie   : Bool
  /-- the receive engine (R35) -/
  rx     : RxEngine
  /-- ACTIVE (R38) -/
  active : Bool
  /-- the host registers (R42) -/
  regs   : HostRegs
  /-- the foreground -/
  fg     : Foreground
  /-- the serial link -/
  link   : Link
  /-- host memory (20_memory.md R72) -/
  mem    : Memory
  /-- the oracle -/
  oracle : Oracle
  /-- how many resets have happened (log entry 9) -/
  epoch  : Nat
  deriving DecidableEq, Repr

/-- Why the machine stops with a fault: never. "the block has no fault bits and no fault outcome of its own"
(60_exceptions.md R322): no meaning and no step raises one, so the type has no constructor. -/
inductive Fault where
  deriving DecidableEq, Repr

/-- Why the model gives a step no meaning. -/
inductive Refusal where
  /-- Raised by `exec` for an instruction that has no meaning yet; safe. -/
  | notModelled (mnemonic : String)
  /-- Raised by a foreground access that touches the register window and is not an aligned 32-bit access, a byte
  access included (20_memory.md R81, I4); safe: "the model gives it no meaning". -/
  | windowAccess
  /-- Raised by a foreground register access outside the register window: it is no access of this block; safe. -/
  | outsideWindow
  deriving DecidableEq, Repr

/-- A driver slot after reset (R51); its buffer bytes are unknown: nothing is listed. -/
def DrvPkt.reset : DrvPkt := { flags := 0x00, length := 0, buf := [] }

/-- Application slot `h` after reset (R51). -/
def AppPkt.reset (h : Nat) : AppPkt :=
  { flags := 0x80, capacity := 0, length := 0, buffer := 0, index := BitVec.ofNat 8 h }

/-- The state a launch starts from (R51, R350, R366): the reset state for these parameters, this admitted memory, no
input and no command given. -/
def State.launch (p : Params) (ram : List Region) : State :=
  { cfg    := { drvCap := p.drvCap, addrW := p.addrW, regBase := p.regBase, ram := ram }
    drv    := List.replicate p.nDrv DrvPkt.reset
    app    := (List.range p.nApp).map AppPkt.reset
    freeq  := List.range p.nDrv
    txq    := []
    rxq    := []
    bld    := { pkt := none, carry := 0, cont := false }
    tx     := { state := .idle, pkt := none, pos := 0, lit := 0 }
    txie   := false
    rx     := { state := .awaitStart, pkt := none, flags := 0, size := 0, rem := 0 }
    active := false
    regs   := { argLen := 0, argAddr := 0, result := 0, resultLen := 0 }
    fg     := { cmdPort := none, ops := [], seen := [] }
    link   := { rxData := none, incoming := [], txReady := false, wire := [] }
    mem    := []
    oracle := { sched := [], draws := 0 }
    epoch  := 0 }

/-- The machine right after reset, at the default parameters of R6, all of host memory admitted (R76; log entry 8). -/
def State.reset : State :=
  State.launch Params.default [{ base := 0, size := 2 ^ Params.default.addrW }]

end Sys2Proof.Machine
end

