-- ==== Sys2Proof/Machine/Flags.lean ====
section
/-! DEFINITION. Bit-level definitions: the packet flags byte (10_state.md R23), the marker values of the wire
(30_encoding.md R111), the codes of states and statuses, and the words RESULT and STATUS are made of. -/

namespace Sys2Proof.Machine

/-- FIRST (R23). -/
def flagFIRST : Byte := 0x04
/-- LAST (R23). -/
def flagLAST : Byte := 0x08
/-- READY (R23). -/
def flagREADY : Byte := 0x10
/-- DONE (R23). -/
def flagDONE : Byte := 0x20
/-- FOR_RX (R23). -/
def flagFORRX : Byte := 0x40
/-- APP_OWNED (R23). -/
def flagAPPOWNED : Byte := 0x80

/-- Bit 7, APP_OWNED. -/
def isAppOwned (f : Byte) : Bool := f.getLsbD 7
/-- Bit 5, DONE. -/
def isDone (f : Byte) : Bool := f.getLsbD 5
/-- Bit 6, FOR_RX. -/
def isForRx (f : Byte) : Bool := f.getLsbD 6
/-- USAGE, bits [1:0] (R24). -/
def usageBits (f : Byte) : BitVec 2 := f.extractLsb' 0 2

/-- The flags byte the transmitter sends: USAGE, FIRST, LAST, APP_OWNED (R113). -/
def wireFlags (f : Byte) : Byte := f &&& 0x8F

/-- The flags the receiver records: the kept bits of the wire byte, FOR_RX and READY (R118, R222). -/
def recvFlags (b : Byte) : Byte := (b &&& 0x8F) ||| flagFORRX ||| flagREADY

/-- A transfer completes: DONE set, READY clear (R199, R231). -/
def completeFlags (f : Byte) : Byte := (f ||| flagDONE) &&& ~~~flagREADY

/-- The flags of a fragment at its allocation by the builder: usage, and FIRST if it begins a message (R161, R164). -/
def openFlags (usage : BitVec 2) (first : Bool) : Byte :=
  usage.setWidth 8 ||| (if first then flagFIRST else 0)

/-- The flags of a fragment the builder hands over: LAST on request, READY (R162). -/
def finishFlags (last : Bool) (f : Byte) : Byte := (if last then f ||| flagLAST else f) ||| flagREADY

/-- The flags QUEUE_TX stamps: USAGE, FIRST, LAST from B[3:0], APP_OWNED, READY; DONE and FOR_RX clear (R261). -/
def queueFlags (b : Byte) : Byte := (b &&& 0x0F) ||| flagAPPOWNED ||| flagREADY

/-- The flags of an armed slot: APP_OWNED, FOR_RX, READY (R262, R232). -/
def armedFlags : Byte := 0xD0

/-- RELEASE clears DONE, READY and FOR_RX (R265). -/
def releaseFlags (f : Byte) : Byte := f &&& ~~~(0x70 : Byte)

/-- READY and FOR_RX set, DONE clear (R233). -/
def armedBits (f : Byte) : Bool := decide (f &&& 0x70 = 0x50)

/-- START (R111). -/
def markSTART : Byte := 0x8C
/-- ESCAPE (R111). -/
def markESCAPE : Byte := 0x9D
/-- END (R111). -/
def markEND : Byte := 0xAE

/-- `in(b, RESERVED)` (R111). -/
def isReserved (b : Byte) : Bool := decide (b = markSTART) || decide (b = markESCAPE) || decide (b = markEND)

/-- `0x20 <= b <= 0x7E` (41_builder.md R167). -/
def printable (b : Byte) : Bool := decide (0x20 ≤ b.toNat) && decide (b.toNat ≤ 0x7E)

/-- Low byte of a 16-bit length (R112). -/
def lowByte (n : Half) : Byte := n.extractLsb' 0 8
/-- High byte of a 16-bit length (R112). -/
def highByte (n : Half) : Byte := n.extractLsb' 8 8

/-- The numbers of the transmit states (R34). -/
def txStateCode : TxState → BitVec 4
  | .idle => 0
  | .sentStart => 1
  | .sentFlags => 2
  | .sentIndex => 3
  | .sentSize1 => 4
  | .sentSize2 => 5
  | .sentData => 6
  | .sentEsc => 7
  | .sentAllData => 8

/-- The numbers of the receive states (R36). -/
def rxStateCode : RxState → BitVec 3
  | .awaitStart => 0
  | .awaitFlags => 1
  | .awaitIndex => 2
  | .awaitSize1 => 3
  | .awaitSize2 => 4
  | .awaitDataEsc => 5
  | .awaitData => 6
  | .awaitEnd => 7

/-- The numbers of the status codes (R50). -/
def statusCode : Status → Byte
  | .ok => 0x00
  | .unavailable => 0x01
  | .busy => 0x02
  | .badHandle => 0x03
  | .illegal => 0x04
  | .empty => 0x05
  | .badArg => 0x06

/-- RESULT: ST in [7:0], VAL in [15:8], RFLAGS in [23:16], 0 above (R46). -/
def resultWord (st : Status) (val fl : Byte) : Word := (0 : Byte) ++ fl ++ val ++ statusCode st

/-- RESULT.ST (R46). -/
def resultST (r : Word) : Byte := r.extractLsb' 0 8
/-- RESULT.VAL (R46). -/
def resultVAL (r : Word) : Byte := r.extractLsb' 8 8
/-- RESULT.RFLAGS (R46). -/
def resultRFLAGS (r : Word) : Byte := r.extractLsb' 16 8

/-- A predicate value 0 or 1 (R46). -/
def boolByte (b : Bool) : Byte := if b then 1 else 0

end Sys2Proof.Machine
end

