-- ==== Sys2Proof/Machine/Ops.lean ====
section
/-! DEFINITION. The named operations over the state: memory, packet records, queues (40_pool_queues.md), places and
ownership, results (10_state.md R46), the serial line (60_exceptions.md R328) and reset (70_reset_and_hazards.md R351).
The block takes no exception and returns from none (60_exceptions.md R320, R333, R334): there is no such operation. -/

namespace Sys2Proof.Machine

/-! ### Memories -/

/-- The byte listed at an address, if any. -/
def Memory.find (m : Memory) (a : Nat) : Option Byte :=
  match m with
  | [] => none
  | c :: rest => if c.1 = a then some c.2 else Memory.find rest a

/-- Write one byte, keeping the addresses strictly rising. -/
def Memory.put (m : Memory) (a : Nat) (v : Byte) : Memory :=
  match m with
  | [] => [(a, v)]
  | c :: rest =>
    if a < c.1 then (a, v) :: c :: rest
    else if a = c.1 then (a, v) :: rest
    else c :: Memory.put rest a v

/-! ### Host memory (20_memory.md R72 to R77) -/

/-- Address of payload byte `k` of a buffer: `(buffer + k) mod 2^ADDR_W` (R75). -/
def State.hostAddr (s : State) (buffer : Word) (k : Nat) : Nat := (buffer.toNat + k) % 2 ^ s.cfg.addrW

/-- The address lies in the block's own register window, 32 bytes at `REG_BASE` (R77). -/
def State.inWindow (s : State) (a : Nat) : Bool :=
  decide (s.cfg.regBase ≤ a) && decide (a < s.cfg.regBase + 32)

/-- The launch memory admits the address (R73, R74): it is an `ADDR_W`-bit address of an admitted region, and not one
of the block's own window, which the block never masters an access to (R77; DEDUCED, log entry 8). -/
def State.admits (s : State) (a : Nat) : Bool :=
  decide (a < 2 ^ s.cfg.addrW) && s.cfg.ram.any (fun r => decide (r.base ≤ a) && decide (a < r.base + r.size)) &&
    !s.inWindow a

/-- What host memory holds at an address: the byte last written, else the launch's byte, a free value (R73; log
entry 7). -/
def State.memByte (s : State) (a : Nat) : Byte := (s.mem.find a).getD (Config.launchByte a)

/-- `MemRead(addr, 1)`; `none` is "the reading step has no transition" (R73). -/
def State.memRead (s : State) (a : Nat) : Option Byte := if s.admits a then some (s.memByte a) else none

/-- `MemWrite(addr, 1, v)`; `none` is "the writing step has no transition" (R74). -/
def State.memWrite (s : State) (a : Nat) (v : Byte) : Option State :=
  if s.admits a then some { s with mem := s.mem.put a v } else none

/-! ### Packet records (10_state.md R21 to R28) -/

/-- `N_DRV`, the number of driver slots (R6, R21). -/
def State.nDrv (s : State) : Nat := s.drv.length

/-- `N_APP`, the number of application slots (R6, R28). -/
def State.nApp (s : State) : Nat := s.app.length

/-- `pkt(DRV(i))`. No rule names a slot outside the table (R39); the answer there is a reset slot (log entry 14). -/
def State.drvPkt (s : State) (i : Nat) : DrvPkt := s.drv.getD i DrvPkt.reset

/-- `pkt(APP(h))`. No rule names a slot outside the table (R39, R260); the answer there is a reset slot (log entry
14). -/
def State.appPkt (s : State) (h : Nat) : AppPkt := s.app.getD h (AppPkt.reset h)

/-- Replace driver record `i`. -/
def State.setDrv (s : State) (i : Nat) (p : DrvPkt) : State := { s with drv := s.drv.set i p }

/-- Replace application record `h`. -/
def State.setApp (s : State) (h : Nat) (p : AppPkt) : State := { s with app := s.app.set h p }

/-- `pkt(p).flags`. -/
def State.flagsOf (s : State) : PktId → Byte
  | .drv i => (s.drvPkt i).flags
  | .app h => (s.appPkt h).flags

/-- `pkt(p).length`. -/
def State.lengthOf (s : State) : PktId → Half
  | .drv i => (s.drvPkt i).length
  | .app h => (s.appPkt h).length

/-- `cap(p)`: `DRV_CAP` for a driver slot, the recorded capacity for an application slot (43_rx_fsm.md R230). -/
def State.capOf (s : State) : PktId → Nat
  | .drv _ => s.cfg.drvCap
  | .app h => (s.appPkt h).capacity.toNat

/-- `pkt(p).flags <- f`. -/
def State.setFlags (s : State) (p : PktId) (f : Byte) : State :=
  match p with
  | .drv i => s.setDrv i { s.drvPkt i with flags := f }
  | .app h => s.setApp h { s.appPkt h with flags := f }

/-- `pkt(p).flags <- f; pkt(p).length <- n`. -/
def State.setFlagsLength (s : State) (p : PktId) (f : Byte) (n : Half) : State :=
  match p with
  | .drv i => s.setDrv i { s.drvPkt i with flags := f, length := n }
  | .app h => s.setApp h { s.appPkt h with flags := f, length := n }

/-- `pkt(p).length <- n`. -/
def State.setLength (s : State) (p : PktId) (n : Half) : State :=
  match p with
  | .drv i => s.setDrv i { s.drvPkt i with length := n }
  | .app h => s.setApp h { s.appPkt h with length := n }

/-- `DBUF(i)[k]` (20_memory.md R70); a byte not written since reset is unknown, a free value (R51; log entry 9). -/
def State.dbuf (s : State) (i k : Nat) : Byte := ((s.drvPkt i).buf.find k).getD (Config.dbufByte s.epoch i k)

/-- `DBUF(i)[k] <- v`. -/
def State.setDbuf (s : State) (i k : Nat) (v : Byte) : State :=
  s.setDrv i { s.drvPkt i with buf := (s.drvPkt i).buf.put k v }

/-! ### Queues (40_pool_queues.md R140, R141) -/

/-- `dequeue(Q)`: the head and the rest, or nothing when the queue is empty (R141). -/
def dequeue {α : Type} (q : List α) : Option (α × List α) :=
  match q with
  | [] => none
  | p :: rest => some (p, rest)

/-- `enqueue(FREEQ, DRV(i))` (R140). -/
def State.enqueueFree (s : State) (i : Nat) : State := { s with freeq := s.freeq ++ [i] }

/-- `enqueue(TXQ, p)`, which also sets TXIE (R140). -/
def State.enqueueTx (s : State) (p : PktId) : State := { s with txq := s.txq ++ [p], txie := true }

/-- `enqueue(RXQ, DRV(i))` (R140). -/
def State.enqueueRx (s : State) (i : Nat) : State := { s with rxq := s.rxq ++ [i] }

/-! ### Places and ownership (R145 to R147) -/

/-- The places of a driver packet (R145). -/
inductive Loc where
  | free
  | build
  | txq
  | txing
  | rxing
  | rxq
  | held
  deriving DecidableEq, Repr

/-- `loc(DRV(i))` (R145). -/
def State.loc (s : State) (i : Nat) : Loc :=
  if i ∈ s.freeq then .free
  else if s.bld.pkt = some i then .build
  else if PktId.drv i ∈ s.txq then .txq
  else if s.tx.pkt = some (.drv i) then .txing
  else if s.rx.pkt = some (.drv i) then .rxing
  else if i ∈ s.rxq then .rxq
  else .held

/-- Consumer-held: in range and in none of the other places (R146, R291, R292). -/
def State.held (s : State) (i : Nat) : Bool := decide (i < s.nDrv) && decide (s.loc i = .held)

/-- `busy(h)` (R147): in flight in either direction, or waiting in TXQ. -/
def State.busy (s : State) (h : Nat) : Bool :=
  decide (s.tx.pkt = some (.app h)) || decide (s.rx.pkt = some (.app h)) || decide (PktId.app h ∈ s.txq)

/-- `armed(h)` (43_rx_fsm.md R233). -/
def State.armed (s : State) (h : Nat) : Bool := armedBits (s.appPkt h).flags

/-! ### Results (10_state.md R46, R47) -/

/-- `result(st, val, fl, len)`: writes RESULT and RESULT_LEN. Every command's step does it exactly once, and with it
the CMD write completes (R43). -/
def State.putResult (s : State) (st : Status) (val fl : Byte) (len : Half) : State :=
  { s with
    regs := { s.regs with result := resultWord st val fl, resultLen := len }
    fg := { s.fg with cmdPort := none } }

/-! ### The serial line (60_exceptions.md R324, R328) -/

/-- `emit(b)`: the byte goes on the line after every byte emitted earlier (R328), and fills the transmit slot (R324). -/
def State.emit (s : State) (b : Byte) : State :=
  { s with link := { s.link with wire := s.link.wire ++ [b], txReady := false } }

/-! ### Reset (70_reset_and_hazards.md R350, R351) -/

/-- The parameters this launch runs with. -/
def State.params (s : State) : Params :=
  { nDrv := s.nDrv, drvCap := s.cfg.drvCap, nApp := s.nApp, addrW := s.cfg.addrW, regBase := s.cfg.regBase }

/-- The platform resets the block: every element of R51 takes its reset value. What is not block state stays: the
foreground (a CMD write that has not completed stays outstanding: DESIGN CHOICE, log entry 11), LINK, host memory, the
oracle. The driver buffers are unknown again. -/
def State.resetBlock (s : State) : State :=
  { State.launch s.params s.cfg.ram with
    fg := s.fg, link := s.link, mem := s.mem, oracle := s.oracle, epoch := s.epoch + 1 }

end Sys2Proof.Machine
end

