-- ==== Sys2Proof/Machine/Operands.lean ====
section
/-! DEFINITION. How a command's operands reach its meaning (30_encoding.md R102, R103): A as a handle or slot number, the
parts of B, and LEN and ADDR from the argument registers; with the checks every command of a family makes first
(44_app_interface.md R260, R147; 45_consumer_control.md R291). -/

namespace Sys2Proof.Machine

/-- A as a handle or driver slot number: the 8-bit number as written (R102). -/
def slotOfA (a : Byte) : Nat := a.toNat

/-- B[1:0] (R161). -/
def usageOperand (b : Byte) : BitVec 2 := b.extractLsb' 0 2

/-- B[0] (R300). -/
def bitOperand (b : Byte) : Bool := b.getLsbD 0

/-- A slot number as RESULT.VAL (R46): the tables hold at most 256 slots (R6). -/
def slotByte (i : Nat) : Byte := BitVec.ofNat 8 i

/-- `LEN`, ARG_LEN[15:0] at the step of the command (R44, R102). -/
def State.LEN (s : State) : Half := s.regs.argLen

/-- `ADDR`, ARG_ADDR[ADDR_W-1:0] at the step of the command (R45, R102). -/
def State.ADDR (s : State) : Word := s.regs.argAddr

/-- The handle check (R260): a handle `>= N_APP` is answered BAD_HANDLE with no other change. -/
def State.checkHandle (s : State) (h : Byte) (body : State) : State :=
  if s.nApp ≤ slotOfA h then s.putResult .badHandle 0 0 0 else body

/-- The busy check (R147): a busy slot is answered BUSY with no other change (R261, R262, R265). -/
def State.checkBusy (s : State) (h : Byte) (body : State) : State :=
  if s.busy (slotOfA h) then s.putResult .busy h 0 0 else body

/-- The consumer's check (R291, R292): a slot that is not consumer-held is answered BAD_HANDLE with no other change. -/
def State.checkHeld (s : State) (i : Byte) (body : State) : State :=
  if s.held (slotOfA i) then body else s.putResult .badHandle 0 0 0

end Sys2Proof.Machine
end

