-- ==== Sys2Proof/Machine/App.lean ====
section
/-! DEFINITION. The application packet interface commands (44_app_interface.md). -/

namespace Sys2Proof.Machine

/-- QUEUE_TX past its checks (R261). -/
def State.queueSlot (s : State) (h flags : Byte) : State :=
  let p := s.appPkt (slotOfA h)
  let p1 := { p with flags := queueFlags flags, length := s.LEN, capacity := s.LEN, buffer := s.ADDR }
  ((s.setApp (slotOfA h) p1).enqueueTx (.app (slotOfA h))).putResult .ok h (queueFlags flags) s.LEN

/-- ARM_RX past its checks (R262). -/
def State.armSlot (s : State) (h : Byte) : State :=
  let p := s.appPkt (slotOfA h)
  let p1 := { p with flags := armedFlags, capacity := s.LEN, buffer := s.ADDR, length := 0 }
  (s.setApp (slotOfA h) p1).putResult .ok h armedFlags s.LEN

/-- RELEASE past its checks (R265). -/
def State.releaseSlot (s : State) (h : Byte) : State :=
  let p := s.appPkt (slotOfA h)
  (s.setApp (slotOfA h) { p with flags := releaseFlags p.flags }).putResult .ok h (releaseFlags p.flags) p.length

/-- The two predicates (R263, R264): DONE, and FOR_RX as the direction asks; the command writes only the result. -/
def State.predicate (s : State) (h : Byte) (forRx : Bool) : State :=
  let p := s.appPkt (slotOfA h)
  s.putResult .ok (boolByte (isDone p.flags && (isForRx p.flags == forRx))) p.flags p.length

/-- QUEUE_TX (R261). -/
def execQueueTx (h flags : Byte) (s : State) : Host.Outcome State Fault Refusal :=
  .next (s.checkHandle h (s.checkBusy h (s.queueSlot h flags)))

/-- ARM_RX (R262). -/
def execArmRx (h : Byte) (s : State) : Host.Outcome State Fault Refusal :=
  .next (s.checkHandle h (s.checkBusy h (s.armSlot h)))

/-- IS_TX_DONE (R263). -/
def execIsTxDone (h : Byte) (s : State) : Host.Outcome State Fault Refusal :=
  .next (s.checkHandle h (s.predicate h false))

/-- IS_RX_DONE (R264). -/
def execIsRxDone (h : Byte) (s : State) : Host.Outcome State Fault Refusal :=
  .next (s.checkHandle h (s.predicate h true))

/-- RELEASE (R265). -/
def execRelease (h : Byte) (s : State) : Host.Outcome State Fault Refusal :=
  .next (s.checkHandle h (s.checkBusy h (s.releaseSlot h)))

end Sys2Proof.Machine
end

