-- ==== Sys2Proof/Machine/Builder.lean ====
section
/-! DEFINITION. The packet builder commands (41_builder.md). -/

namespace Sys2Proof.Machine

/-- `bld_finish(last)` on the open fragment, slot `i` (R162). -/
def State.bldFinish (s : State) (last : Bool) (i : Nat) : State :=
  let s1 := s.setFlags (.drv i) (finishFlags last (s.drvPkt i).flags)
  let s2 := s1.enqueueTx (.drv i)
  { s2 with bld := { s2.bld with pkt := none } }

/-- `if BLD_PKT != none: bld_finish(1)` (R161, R166). -/
def State.bldFlush (s : State) : State :=
  match s.bld.pkt with
  | some i => s.bldFinish true i
  | none => s

/-- Open a fragment in slot `i`, already taken from FREEQ (R161, R164). -/
def State.bldOpen (s : State) (i : Nat) (flags : Byte) : State :=
  let s1 := s.setFlagsLength (.drv i) flags 0
  { s1 with bld := { s1.bld with pkt := some i } }

/-- The open fragment, opened lazily from FREEQ if there is none (R164); nothing when no fragment is open and FREEQ is
empty, the state in which the command holds (R163). -/
def State.bldLazy (s : State) : Option (Nat × State) :=
  match s.bld.pkt with
  | some i => some (i, s)
  | none =>
    match dequeue s.freeq with
    | some (i, rest) =>
      some (i, State.bldOpen { s with freeq := rest } i (openFlags s.bld.carry (!s.bld.cont)))
    | none => none

/-- Store a byte in the open fragment, slot `i`; the fragment that reaches `DRV_CAP` is closed in the same step,
without LAST (R164). -/
def State.bldStore (s : State) (i : Nat) (b : Byte) : State :=
  let p := s.drvPkt i
  let n := p.length + 1
  let s1 := (s.setDbuf i p.length.toNat b).setLength (.drv i) n
  let s2 :=
    if n.toNat = s.cfg.drvCap then
      State.bldFinish { s1 with bld := { s1.bld with carry := usageBits p.flags, cont := true } } false i
    else s1
  s2.putResult .ok (slotByte i) (s2.drvPkt i).flags n

/-- The body of APPEND_BYTE and APPEND_INFER (R164): a held command changes nothing and its CMD write stays
outstanding (R163, R43). -/
def State.append (s : State) (b : Byte) : State :=
  match s.bldLazy with
  | some (i, s1) => s1.bldStore i b
  | none => s

/-- The usage inference of APPEND_INFER (R165): only with no fragment open and no message being continued, and only in
a step the command takes (R163: a held command changes nothing). -/
def State.infer (s : State) (b : Byte) : State :=
  if s.bld.pkt = none ∧ s.bld.cont = false ∧ s.freeq ≠ [] then
    { s with bld := { s.bld with carry := if printable b then 0 else 1 } }
  else s

/-- START_OUTGOING (R161). -/
def execStartOutgoing (usage : Byte) (s : State) : Host.Outcome State Fault Refusal :=
  let s1 := s.bldFlush
  let s2 := { s1 with bld := { s1.bld with carry := usageOperand usage, cont := false } }
  match dequeue s2.freeq with
  | none => .next (s2.putResult .unavailable 0 0 0)
  | some (i, rest) =>
    let fl := openFlags (usageOperand usage) true
    .next ((State.bldOpen { s2 with freeq := rest } i fl).putResult .ok (slotByte i) fl 0)

/-- APPEND_BYTE (R164). -/
def execAppendByte (b : Byte) (s : State) : Host.Outcome State Fault Refusal := .next (s.append b)

/-- APPEND_INFER (R165). -/
def execAppendInfer (b : Byte) (s : State) : Host.Outcome State Fault Refusal := .next ((s.infer b).append b)

/-- FLUSH (R166). -/
def execFlush (s : State) : Host.Outcome State Fault Refusal :=
  let s1 := s.bldFlush
  .next (State.putResult { s1 with bld := { s1.bld with carry := 0, cont := false } } .ok 0 0 0)

end Sys2Proof.Machine
end

