-- ==== Sys2Proof/Machine/Consumer.lean ====
section
/-! DEFINITION. The receive consumer commands (45_consumer_control.md section 1). -/

namespace Sys2Proof.Machine

/-- RX_READ_BYTE of a consumer-held slot (R291): an offset at or past the length is BAD_ARG. -/
def State.readHeld (s : State) (i : Byte) : State :=
  let p := s.drvPkt (slotOfA i)
  if p.length.toNat ≤ s.LEN.toNat then s.putResult .badArg 0 0 0
  else s.putResult .ok (s.dbuf (slotOfA i) s.LEN.toNat) p.flags p.length

/-- RX_FREE of a consumer-held slot (R292). -/
def State.freeHeld (s : State) (i : Byte) : State :=
  ((s.setFlagsLength (.drv (slotOfA i)) 0x00 0).enqueueFree (slotOfA i)).putResult .ok i 0 0

/-- RX_COLLECT (R290). -/
def execRxCollect (s : State) : Host.Outcome State Fault Refusal :=
  match dequeue s.rxq with
  | none => .next (s.putResult .empty 0 0 0)
  | some (i, rest) =>
    .next (State.putResult { s with rxq := rest } .ok (slotByte i) (s.drvPkt i).flags (s.drvPkt i).length)

/-- RX_READ_BYTE (R291). -/
def execRxReadByte (i : Byte) (s : State) : Host.Outcome State Fault Refusal :=
  .next (s.checkHeld i (s.readHeld i))

/-- RX_FREE (R292). -/
def execRxFree (i : Byte) (s : State) : Host.Outcome State Fault Refusal :=
  .next (s.checkHeld i (s.freeHeld i))

end Sys2Proof.Machine
end

