-- ==== Sys2Proof/Machine/Control.lean ====
section
/-! DEFINITION. The control commands and the answer to a word that is no command (45_consumer_control.md section 2). -/

namespace Sys2Proof.Machine

/-- NOP (R302). -/
def execNop (s : State) : Host.Outcome State Fault Refusal := .next (s.putResult .ok 0 0 0)

/-- SET_ACTIVE (R300). -/
def execSetActive (bit : Byte) (s : State) : Host.Outcome State Fault Refusal :=
  .next (State.putResult { s with active := bitOperand bit } .ok (boolByte (bitOperand bit)) 0 0)

/-- QUERY_ACTIVE (R301). -/
def execQueryActive (s : State) : Host.Outcome State Fault Refusal :=
  .next (s.putResult .ok (boolByte s.active) 0 0)

/-- A CMD word that is not a command: its step's only effect is the ILLEGAL result (R104, R105, R303). -/
def State.notACommand (s : State) : State := s.putResult .illegal 0 0 0

end Sys2Proof.Machine
end

