-- ==== Sys2Proof/Machine/Dispatch.lean ====
section
/-! DEFINITION. One arm per command (30_encoding.md R103). -/

namespace Sys2Proof.Machine

def exec (i : Instr) (s : State) : Host.Outcome State Fault Refusal :=
  match i with
  | .nop => Sys2Proof.Machine.execNop s
  | .startOutgoing usage => Sys2Proof.Machine.execStartOutgoing usage s
  | .appendByte b => Sys2Proof.Machine.execAppendByte b s
  | .appendInfer b => Sys2Proof.Machine.execAppendInfer b s
  | .flush => Sys2Proof.Machine.execFlush s
  | .queueTx h flags => Sys2Proof.Machine.execQueueTx h flags s
  | .armRx h => Sys2Proof.Machine.execArmRx h s
  | .isTxDone h => Sys2Proof.Machine.execIsTxDone h s
  | .isRxDone h => Sys2Proof.Machine.execIsRxDone h s
  | .release h => Sys2Proof.Machine.execRelease h s
  | .rxCollect => Sys2Proof.Machine.execRxCollect s
  | .rxReadByte slot => Sys2Proof.Machine.execRxReadByte slot s
  | .rxFree slot => Sys2Proof.Machine.execRxFree slot s
  | .setActive bit => Sys2Proof.Machine.execSetActive bit s
  | .queryActive => Sys2Proof.Machine.execQueryActive s

end Sys2Proof.Machine
end

