-- ==== Sys2Proof/Machine/Foreground.lean ====
section
/-! DEFINITION. The foreground's accesses: the register window (10_state.md R42 to R49; 20_memory.md R77, R81), host
memory (20_memory.md R86), and the pseudo-instructions as sequences of accesses (30_encoding.md R107, R108). -/

namespace Sys2Proof.Machine

/-- STATUS, a view of the state (R48). The two counts are the queue lengths, which fit their fields at every reachable
state (at most `N_DRV <= 255`). -/
def State.statusWord (s : State) : Word :=
  BitVec.ofNat 8 s.rxq.length ++ BitVec.ofNat 8 s.freeq.length ++ (0 : BitVec 1) ++ rxStateCode s.rx.state ++
    txStateCode s.tx.state ++ (0 : BitVec 2) ++ s.bld.carry ++ BitVec.ofBool s.bld.cont ++
    BitVec.ofBool s.bld.pkt.isSome ++ BitVec.ofBool s.txie ++ BitVec.ofBool s.active

/-- A 32-bit read of the register at offset `off` of the window (R42 to R49); CMD and the reserved offsets read 0. -/
def State.regValue (s : State) (off : Nat) : Word :=
  if off = 0x04 then s.regs.argLen.setWidth 32
  else if off = 0x08 then s.regs.argAddr
  else if off = 0x0C then s.regs.result
  else if off = 0x10 then s.regs.resultLen.setWidth 32
  else if off = 0x14 then s.statusWord
  else 0

/-- The `ADDR_W` low bits of a word; the rest of ARG_ADDR reads 0 and ignores writes (R45). -/
def State.maskAddr (s : State) (v : Word) : Word := BitVec.ofNat 32 (v.toNat % 2 ^ s.cfg.addrW)

/-- The step of the outstanding command word `w` (R43): the command it stands for, or the ILLEGAL answer (R303). -/
def State.runCommand (s : State) (w : Word) : Host.Outcome State Fault Refusal :=
  match decode w with
  | .ok i => exec i s
  | .error _ => .next s.notACommand

/-- A write of `w` to CMD (R43): it is outstanding until its command's step has been taken. -/
def State.writeCmd (s : State) (w : Word) : Host.Outcome State Fault Refusal :=
  State.runCommand { s with fg := { s.fg with cmdPort := some w } } w

/-- A 32-bit write of the register at offset `off` of the window (R43 to R49); read-only registers and reserved offsets
ignore it. -/
def State.writeReg (s : State) (off : Nat) (v : Word) : Host.Outcome State Fault Refusal :=
  if off = 0x00 then s.writeCmd v
  else if off = 0x04 then .next { s with regs := { s.regs with argLen := v.extractLsb' 0 16 } }
  else if off = 0x08 then .next { s with regs := { s.regs with argAddr := s.maskAddr v } }
  else .next s

/-- The foreground has read a word. -/
def State.sees (s : State) (v : Word) : State := { s with fg := { s.fg with seen := s.fg.seen ++ [v] } }

/-- The access touches the register window. -/
def State.touchesWindow (s : State) (addr size : Nat) : Bool :=
  decide (addr < s.cfg.regBase + 32) && decide (s.cfg.regBase < addr + size)

/-- The access is an aligned 32-bit access of the window (R81; alignment is counted from `REG_BASE`, log entry 12). -/
def State.alignedAccess (s : State) (addr size : Nat) : Bool :=
  decide (size = 4) && decide (s.cfg.regBase ≤ addr) && decide ((addr - s.cfg.regBase) % 4 = 0)

/-- A register write of the foreground: refused by name when it is not an aligned 32-bit access (R81), or no access of
this block's window. -/
def State.regWrite (s : State) (addr size : Nat) (v : Word) : Host.Outcome State Fault Refusal :=
  if s.touchesWindow addr size then
    if s.alignedAccess addr size then s.writeReg (addr - s.cfg.regBase) v else .refused .windowAccess
  else .refused .outsideWindow

/-- A register read of the foreground; no read has a side effect on the block (R49). -/
def State.regRead (s : State) (addr size : Nat) : Host.Outcome State Fault Refusal :=
  if s.touchesWindow addr size then
    if s.alignedAccess addr size then .next (s.sees (s.regValue (addr - s.cfg.regBase))) else .refused .windowAccess
  else .refused .outsideWindow

/-- The address is a payload byte of the buffer of slot `h`, `capacity` bytes from `buffer`, wrapping (R75). -/
def State.inBuffer (s : State) (h a : Nat) : Bool :=
  decide ((a + 2 ^ s.cfg.addrW - (s.appPkt h).buffer.toNat % 2 ^ s.cfg.addrW) % 2 ^ s.cfg.addrW <
    (s.appPkt h).capacity.toNat)

/-- The address belongs to the buffer of a busy slot: a foreground access to it races the engine (R86, R354). -/
def State.raced (s : State) (a : Nat) : Bool :=
  (List.range s.nApp).any (fun h => s.busy h && s.inBuffer h a)

/-- One more free draw of the oracle has been taken. -/
def State.drawn (s : State) : State := { s with oracle := { s.oracle with draws := s.oracle.draws + 1 } }

/-- One byte of host memory written by the foreground. A byte of a busy slot's buffer may hold any value after it (R86,
I6; log entry 10). At an address the launch memory does not admit the write changes nothing (the spec is silent: DESIGN
CHOICE, log entry 22). -/
def State.hostWrite (s : State) (a : Nat) (b : Byte) : State :=
  if s.admits a then
    if s.raced a then { s.drawn with mem := s.mem.put a (Config.openByte s.oracle.draws) }
    else { s with mem := s.mem.put a b }
  else s

/-- One byte of host memory read by the foreground. A byte of a busy slot's buffer may read as any value (R86, I6; log
entry 10), and so may one at an address the launch memory does not admit, `2^ADDR_W` and above included (the spec is
silent: DESIGN CHOICE, log entry 22). -/
def State.hostRead (s : State) (a : Nat) : State :=
  if s.admits a && !s.raced a then s.sees ((s.memByte a).setWidth 32)
  else s.drawn.sees ((Config.openByte s.oracle.draws).setWidth 32)

/-- A foreground write of one byte; one that falls in the register window is no aligned 32-bit access of it and is
refused (R81, R49). -/
def State.poke (s : State) (a : Nat) (b : Byte) : Host.Outcome State Fault Refusal :=
  if s.inWindow a then .refused .windowAccess else .next (s.hostWrite a b)

/-- A foreground read of one byte; one that falls in the register window is no aligned 32-bit access of it and is
refused (R81, R49). -/
def State.peek (s : State) (a : Nat) : Host.Outcome State Fault Refusal :=
  if s.inWindow a then .refused .windowAccess else .next (s.hostRead a)

/-- Put an access in front of those still to come. -/
def State.pushOp (s : State) (op : HostOp) : State := { s with fg := { s.fg with ops := op :: s.fg.ops } }

/-- The read of RESULT in a poll loop: the loop ends when RESULT.VAL is 1, else it begins again (R108). -/
def State.pollCheck (s : State) (again : HostOp) : State :=
  let s1 := s.sees s.regs.result
  if resultVAL s.regs.result = 1 then s1 else s1.pushOp again

/-- One access of the foreground, already taken from those still to come. -/
def State.access (s : State) (op : HostOp) : Host.Outcome State Fault Refusal :=
  match op with
  | .regWrite addr size v => s.regWrite addr size v
  | .regRead addr size => s.regRead addr size
  | .poke a b => s.poke a b
  | .peek a => s.peek a
  | .pollTx h => (s.pushOp (.pollTxRead h)).writeCmd (encode (.isTxDone h))
  | .pollTxRead h => .next (s.pollCheck (.pollTx h))
  | .pollRx h => (s.pushOp (.pollRxRead h)).writeCmd (encode (.isRxDone h))
  | .pollRxRead h => .next (s.pollCheck (.pollRx h))

/-- A turn of the foreground: while a CMD write is outstanding it issues nothing else and that command is tried again
(R43, R163); otherwise it makes its next access. With none left it does nothing. -/
def State.fgTurn (s : State) : Host.Outcome State Fault Refusal :=
  match s.fg.cmdPort with
  | some w => s.runCommand w
  | none =>
    match s.fg.ops with
    | [] => .next s
    | op :: rest => State.access { s with fg := { s.fg with ops := rest } } op

/-! ### Assembler (R107, R108) -/

/-- `<MNEMONIC> ...`: a write of the command's word to CMD (R107). -/
def HostOp.command (regBase : Nat) (i : Instr) : HostOp := .regWrite regBase 4 (encode i)

/-- `W ARG_LEN, v` (R107). -/
def HostOp.writeArgLen (regBase : Nat) (v : Word) : HostOp := .regWrite (regBase + 0x04) 4 v

/-- `W ARG_ADDR, v` (R107). -/
def HostOp.writeArgAddr (regBase : Nat) (v : Word) : HostOp := .regWrite (regBase + 0x08) 4 v

/-- The pseudo-instructions (R108). -/
inductive Pseudo where
  | appendBytes (d : List Byte)
  | appendWithUsageInference (d : List Byte)
  | sendMessage (usage : Byte) (d : List Byte)
  | pollTxDone (h : Byte)
  | pollRxDone (h : Byte)
  deriving DecidableEq, Repr

/-- The commands of the pseudo-instructions that are straight sequences (R108). -/
def Pseudo.commands : Pseudo → List Instr
  | .appendBytes d => d.map .appendByte
  | .appendWithUsageInference [] => []
  | .appendWithUsageInference (b :: d) => .appendInfer b :: d.map .appendByte
  | .sendMessage u d => .startOutgoing u :: (d.map .appendByte ++ [.flush])
  | .pollTxDone _ => []
  | .pollRxDone _ => []

/-- The accesses a pseudo-instruction stands for (R108). -/
def Pseudo.expand (regBase : Nat) (q : Pseudo) : List HostOp :=
  match q with
  | .pollTxDone h => [.pollTx h]
  | .pollRxDone h => [.pollRx h]
  | .appendBytes d => (Pseudo.commands (.appendBytes d)).map (HostOp.command regBase)
  | .appendWithUsageInference d => (Pseudo.commands (.appendWithUsageInference d)).map (HostOp.command regBase)
  | .sendMessage u d => (Pseudo.commands (.sendMessage u d)).map (HostOp.command regBase)

end Sys2Proof.Machine
end

