-- ==== Sys2Proof/Machine/Rx.lean ====
section
/-! DEFINITION. The receive engine RXE (43_rx_fsm.md): one function per state, each one step on the byte `b` it
consumes; `none` is "no transition". In every rule `p` is `RX_PKT`. -/

namespace Sys2Proof.Machine

/-- `RX_STATE <- st`. -/
def State.setRxState (s : State) (st : RxState) : State := { s with rx := { s.rx with state := st } }

/-- `rx_abort()` (R232): a driver packet goes back to the pool, an application slot is armed again. -/
def State.rxAbort (s : State) : State :=
  let s1 := match s.rx.pkt with
    | some (.drv i) => (s.setFlagsLength (.drv i) 0x00 0).enqueueFree i
    | some (.app h) => s.setFlagsLength (.app h) armedFlags 0
    | none => s
  { s1 with rx := { s1.rx with pkt := none, state := .awaitStart } }

/-- `rx_complete()` on `p` (R231). -/
def State.rxComplete (s : State) (p : PktId) : State :=
  let s1 := s.setFlags p (completeFlags (s.flagsOf p))
  let s2 := match p with
    | .drv i => s1.enqueueRx i
    | .app _ => s1
  { s2 with rx := { s2.rx with pkt := none } }

/-- Begin filling `p` (R222, R223). -/
def State.rxBind (s : State) (p : PktId) : State :=
  let s1 := s.setFlagsLength p s.rx.flags 0
  { s1 with rx := { s1.rx with pkt := some p, state := .awaitSize1 } }

/-- AWAIT_START (R221). -/
def State.rxStart (s : State) (b : Byte) : State :=
  if b = markSTART then s.setRxState .awaitFlags else s

/-- AWAIT_FLAGS (R222). -/
def State.rxTakeFlags (s : State) (b : Byte) : State :=
  let s1 := { s with rx := { s.rx with flags := recvFlags b } }
  if isAppOwned b then s1.setRxState .awaitIndex
  else
    match dequeue s1.freeq with
    | none => s1.rxAbort
    | some (i, rest) => State.rxBind { s1 with freeq := rest } (.drv i)

/-- AWAIT_INDEX (R223). -/
def State.rxTakeIndex (s : State) (b : Byte) : State :=
  if s.nApp ≤ b.toNat ∨ s.armed b.toNat = false then s.rxAbort
  else s.rxBind (.app b.toNat)

/-- AWAIT_SIZE_1 (R224). -/
def State.rxSizeLow (s : State) (b : Byte) : State :=
  { s with rx := { s.rx with size := b.setWidth 16, state := .awaitSize2 } }

/-- AWAIT_SIZE_2 (R225). -/
def State.rxSizeHigh (s : State) (p : PktId) (b : Byte) : State :=
  let n : Half := b ++ lowByte s.rx.size
  let s1 := { s with rx := { s.rx with size := n } }
  if s.capOf p < n.toNat then s1.rxAbort
  else { s1 with rx := { s1.rx with rem := n, state := if n = 0 then .awaitEnd else .awaitDataEsc } }

/-- The write of `rx_store(b)` into the buffer of `p` at offset `k` (R229); `none` where the launch memory refuses it
(20_memory.md R74). -/
def State.rxWrite (s : State) (p : PktId) (k : Nat) (b : Byte) : Option State :=
  match p with
  | .drv i => some (s.setDbuf i k b)
  | .app h => s.memWrite (s.hostAddr (s.appPkt h).buffer k) b

/-- `rx_store(b)` on `p`, then the state AWAIT_END when nothing remains, else AWAIT_DATA_ESC (R226, R227, R229). -/
def State.rxStore (s : State) (p : PktId) (b : Byte) : Option State :=
  let k := s.lengthOf p
  match s.rxWrite p k.toNat b with
  | none => none
  | some s1 =>
    let s2 := s1.setLength p (k + 1)
    let r := s2.rx.rem - 1
    some { s2 with rx := { s2.rx with rem := r, state := if r = 0 then .awaitEnd else .awaitDataEsc } }

/-- AWAIT_DATA_ESC (R226). -/
def State.rxDataEsc (s : State) (p : PktId) (b : Byte) : Option State :=
  if b = markESCAPE then some (s.setRxState .awaitData) else s.rxStore p b

/-- AWAIT_END (R228): always back to AWAIT_START; a wrong byte is consumed by the failed packet. -/
def State.rxEnd (s : State) (p : PktId) (b : Byte) : State :=
  (if b = markEND then s.rxComplete p else s.rxAbort).setRxState .awaitStart

/-- One step of RXE on byte `b` (R234). No rule gives the states from AWAIT_SIZE_2 on a step without a packet bound, and
RXE is never in one without (R235): such a state has no transition (log entry 14). -/
def State.rxStep (s : State) (b : Byte) : Option State :=
  match s.rx.state with
  | .awaitStart => some (s.rxStart b)
  | .awaitFlags => some (s.rxTakeFlags b)
  | .awaitIndex => some (s.rxTakeIndex b)
  | .awaitSize1 => some (s.rxSizeLow b)
  | .awaitSize2 => s.rx.pkt.map (fun p => s.rxSizeHigh p b)
  | .awaitDataEsc => s.rx.pkt.bind (fun p => s.rxDataEsc p b)
  | .awaitData => s.rx.pkt.bind (fun p => s.rxStore p b)
  | .awaitEnd => s.rx.pkt.map (fun p => s.rxEnd p b)

/-- RXE's steps on a sequence of bytes (the `LINK rx b1 b2 ...` of 30_encoding.md R107, with no other agent's step
between). -/
def State.rxBytes (s : State) (bs : List Byte) : Option State :=
  match bs with
  | [] => some s
  | b :: rest =>
    match s.rxStep b with
    | some t => t.rxBytes rest
    | none => none

end Sys2Proof.Machine
end

