-- ==== Sys2Proof/Machine/Tx.lean ====
section
/-! DEFINITION. The transmit engine TXE (42_tx_fsm.md): one function per state, each one step; `none` is "no
transition". In every rule `p` is `TX_PKT`. -/

namespace Sys2Proof.Machine

/-- `txbyte(p, k)` (R200); `none` where the launch memory refuses the read (20_memory.md R73). -/
def State.txByte (s : State) (p : PktId) (k : Nat) : Option Byte :=
  match p with
  | .drv i => some (s.dbuf i k)
  | .app h => s.memRead (s.hostAddr (s.appPkt h).buffer k)

/-- `TX_STATE <- st`. -/
def State.setTxState (s : State) (st : TxState) : State := { s with tx := { s.tx with state := st } }

/-- `after_data()`, with `TX_POS` already advanced to `pos` (R201). -/
def State.afterData (s : State) (p : PktId) (pos : Half) : TxState :=
  if pos = s.lengthOf p then .sentAllData else .sentData

/-- `TX_POS <- TX_POS + 1; TX_STATE <- after_data()` (R196, R198). -/
def State.txAdvance (s : State) (p : PktId) : State :=
  { s with tx := { s.tx with pos := s.tx.pos + 1, state := s.afterData p (s.tx.pos + 1) } }

/-- IDLE (R191): take the head of TXQ and send START, or clear TXIE. -/
def State.txIdle (s : State) : State :=
  match dequeue s.txq with
  | none => { s with txie := false }
  | some (p, rest) =>
    State.emit { s with txq := rest, tx := { s.tx with state := .sentStart, pkt := some p, pos := 0 } } markSTART

/-- SENT_START (R192): the wire flags. -/
def State.txFlags (s : State) (p : PktId) : State :=
  (s.emit (wireFlags (s.flagsOf p))).setTxState .sentFlags

/-- `pkt(p).index`, which only an application slot has (R22, R27). -/
def State.indexOf (s : State) (p : PktId) : Option Byte :=
  match p with
  | .drv _ => none
  | .app h => some (s.appPkt h).index

/-- SENT_FLAGS (R193): INDEX of an application-owned packet, else SIZE low. A driver packet has no index and never has
APP_OWNED (R27, R29): in a state where one had, there is no transition (log entry 14). -/
def State.txIndexOrSize (s : State) (p : PktId) : Option State :=
  if isAppOwned (s.flagsOf p) then (s.indexOf p).map (fun x => (s.emit x).setTxState .sentIndex)
  else some ((s.emit (lowByte (s.lengthOf p))).setTxState .sentSize1)

/-- SENT_INDEX (R194): SIZE low. -/
def State.txSizeLow (s : State) (p : PktId) : State :=
  (s.emit (lowByte (s.lengthOf p))).setTxState .sentSize1

/-- SENT_SIZE_1 (R195): SIZE high; a zero-size packet has no data. -/
def State.txSizeHigh (s : State) (p : PktId) : State :=
  (s.emit (highByte (s.lengthOf p))).setTxState (if s.lengthOf p = 0 then .sentAllData else .sentSize2)

/-- SENT_SIZE_2 and SENT_DATA (R196, R197): a payload byte, or ESCAPE with the byte latched. -/
def State.txData (s : State) (p : PktId) : Option State :=
  match s.txByte p s.tx.pos.toNat with
  | none => none
  | some b =>
    if isReserved b then
      some (State.emit { s with tx := { s.tx with lit := b, state := .sentEsc } } markESCAPE)
    else some ((s.emit b).txAdvance p)

/-- SENT_ESC (R198): the latched literal. -/
def State.txLiteral (s : State) (p : PktId) : State := (s.emit s.tx.lit).txAdvance p

/-- SENT_ALL_DATA (R199): END; the packet is done, and a driver packet goes back to FREEQ. -/
def State.txEnd (s : State) (p : PktId) : State :=
  let s1 := (s.emit markEND).setFlags p (completeFlags (s.flagsOf p))
  let s2 := match p with
    | .drv i => s1.enqueueFree i
    | .app _ => s1
  { s2 with tx := { s2.tx with pkt := none, state := .idle } }

/-- One step of TXE on an offered byte slot (R202). No rule gives a state other than IDLE a step without a packet in
flight, and none is ever in one (R203): such a state has no transition (log entry 14). -/
def State.txStep (s : State) : Option State :=
  match s.tx.state with
  | .idle => some s.txIdle
  | .sentStart => s.tx.pkt.map s.txFlags
  | .sentFlags => s.tx.pkt.bind s.txIndexOrSize
  | .sentIndex => s.tx.pkt.map s.txSizeLow
  | .sentSize1 => s.tx.pkt.map s.txSizeHigh
  | .sentSize2 => s.tx.pkt.bind s.txData
  | .sentData => s.tx.pkt.bind s.txData
  | .sentEsc => s.tx.pkt.map s.txLiteral
  | .sentAllData => s.tx.pkt.map s.txEnd

/-- `n` steps of TXE in a row, a slot offered at each (the `LINK txslot x n` of 30_encoding.md R107, with no other
agent's step between). -/
def State.txSlots (s : State) : Nat → Option State
  | 0 => some s
  | n + 1 =>
    match s.txStep with
    | some t => t.txSlots n
    | none => none

/-! ### The frame (30_encoding.md R110, R115) -/

/-- DATA: each payload byte escaped (R115). -/
def escaped (d : List Byte) : List Byte :=
  match d with
  | [] => []
  | b :: rest => if isReserved b then markESCAPE :: b :: escaped rest else b :: escaped rest

/-- The wire frame of a packet with these flags, this handle index where application-owned, and this payload (R110). -/
def frameOf (flags : Byte) (index : Option Byte) (d : List Byte) : List Byte :=
  let n : Half := BitVec.ofNat 16 d.length
  [markSTART, wireFlags flags] ++ index.toList ++ [lowByte n, highByte n] ++ escaped d ++ [markEND]

end Sys2Proof.Machine
end

