-- ==== Sys2Proof/Machine/Agents.lean ====
section
/-! DEFINITION. The agents' turns (00_scope.md R11): whose step is enabled, and what one draw of the oracle does. An
agent that is drawn while it has no step does nothing (log entry 3). -/

namespace Sys2Proof.Machine

/-- A turn of TXE: it has a step exactly when `tx_ready` and `TXIE == 1` (42_tx_fsm.md R190). A step the launch memory
refuses is no transition: TXE stays where it is (20_memory.md R73). -/
def State.txTurn (s : State) : State :=
  if s.link.txReady = true ∧ s.txie = true then s.txStep.getD s else s

/-- RXE takes the presented byte (R327). -/
def State.takeByte (s : State) : State := { s with link := { s.link with rxData := none } }

/-- A turn of RXE: it has a step exactly when a byte is presented, and consumes it (43_rx_fsm.md R220; 60_exceptions.md
R327). A step the launch memory refuses is no transition: the byte is not consumed (20_memory.md R74). -/
def State.rxTurn (s : State) : State :=
  match s.link.rxData with
  | none => s
  | some b => (s.takeByte.rxStep b).getD s

/-- LINK presents its next byte, once the one before has been consumed (R327). -/
def State.linkPresent (s : State) : State :=
  match s.link.rxData, s.link.incoming with
  | none, b :: rest => { s with link := { s.link with rxData := some b, incoming := rest } }
  | _, _ => s

/-- LINK's transmit-ready level takes a value (R329; log entry 5). -/
def State.linkReady (s : State) (r : Bool) : State := { s with link := { s.link with txReady := r } }

/-- What one draw does (R332). -/
def State.turn (s : State) (d : Draw) : Host.Outcome State Fault Refusal :=
  match d with
  | .fg => s.fgTurn
  | .rxe => .next s.rxTurn
  | .txe => .next s.txTurn
  | .linkByte => .next s.linkPresent
  | .linkReady r => .next (s.linkReady r)
  | .reset => .next s.resetBlock

/-- The draw that comes next: the schedule's head, else a free draw (R332; log entry 2). -/
def State.nextDraw (s : State) : Draw :=
  match s.oracle.sched with
  | d :: _ => d
  | [] => Config.draw s.oracle.draws

/-- The draw has been taken from the oracle. -/
def State.afterDraw (s : State) : State :=
  match s.oracle.sched with
  | _ :: rest => { s with oracle := { s.oracle with sched := rest } }
  | [] => s.drawn

/-- The word as an outstanding CMD write, and the foreground drawn next: what makes the next step run that command. -/
def State.placeCommand (s : State) (w : Word) : State :=
  { s with
    fg := { s.fg with cmdPort := some w }
    oracle := { s.oracle with sched := .fg :: s.oracle.sched } }

end Sys2Proof.Machine
end

