-- ==== Sys2Proof/Machine/Step.lean ====
section
/-! DEFINITION. One step of the machine: one draw of the oracle, and the drawn agent's atomic step (00_scope.md R10,
60_exceptions.md R332). -/

namespace Sys2Proof.Machine

/-- One step. -/
def step (s : State) : Host.Outcome State Fault Refusal := s.afterDraw.turn s.nextDraw

/-- `s` with that command word written to CMD and the foreground drawn next (log entry 15), so that `step` runs exactly
it. -/
def State.withFetchWord (s : State) (nbits w : Nat) : State := s.placeCommand (tableWord nbits w)

end Sys2Proof.Machine
end

