-- ==== Sys2Proof/Safety.lean ====
section
/-! DEFINITION. What claims are stated in terms of: where packets are (10_state.md R39), the invariants the spec names
(R29, R39, R203 and the bounds of R164, R229), frames, when a run has ended (R367), the deadlock of the
hold (R357), executions and fairness (R363). -/

namespace Sys2Proof.Machine

/-! ### Places -/

/-- The slot number of a driver id. -/
def PktId.drvSlot : PktId → Option Nat
  | .drv i => some i
  | .app _ => none

/-- The handle of an application id. -/
def PktId.appSlot : PktId → Option Nat
  | .drv _ => none
  | .app h => some h

/-- The driver slots, once for each place of R39 they stand in. -/
def State.drvPlaces (s : State) : List Nat :=
  s.freeq ++ s.bld.pkt.toList ++ s.txq.filterMap PktId.drvSlot ++ (s.tx.pkt.bind PktId.drvSlot).toList ++
    (s.rx.pkt.bind PktId.drvSlot).toList ++ s.rxq

/-- The application slots, once for each place of R39 they stand in. -/
def State.appPlaces (s : State) : List Nat :=
  s.txq.filterMap PktId.appSlot ++ (s.tx.pkt.bind PktId.appSlot).toList ++ (s.rx.pkt.bind PktId.appSlot).toList

/-- The location invariant (R39): no id stands in two places or twice in one, and every id names a slot. A driver id
in none of the places is consumer-held. -/
abbrev State.Located (s : State) : Prop :=
  s.drvPlaces.Nodup ∧ (∀ i ∈ s.drvPlaces, i < s.nDrv) ∧ s.appPlaces.Nodup ∧ (∀ h ∈ s.appPlaces, h < s.nApp)

/-! ### Invariants -/

/-- The launch's parameters are legal (R6), the read-only index of slot `h` is `h` (R28), host addresses have `ADDR_W`
bits (R28, R45), and RESULT[31:24] is 0 (R46). -/
abbrev State.Fixed (s : State) : Prop :=
  s.params.Legal ∧ s.app.map (fun p => p.index) = (List.range s.nApp).map (fun h => BitVec.ofNat 8 h) ∧
    (∀ p ∈ s.app, p.buffer.toNat < 2 ^ s.cfg.addrW) ∧ s.regs.argAddr.toNat < 2 ^ s.cfg.addrW ∧
    s.regs.result.extractLsb' 24 8 = 0

/-- The ownership invariant (R29), with what the engine has recorded when an INDEX is awaited (R222). -/
abbrev State.Owned (s : State) : Prop :=
  (∀ p ∈ s.app, isAppOwned p.flags = true) ∧ (∀ p ∈ s.drv, isAppOwned p.flags = false) ∧
    (s.rx.state = .awaitIndex → isAppOwned s.rx.flags = true ∧ s.rx.flags &&& 0x70 = 0x50)

/-- Lengths stay within capacities (R121), and an open fragment is never full (R164). -/
abbrev State.Bounded (s : State) : Prop :=
  (∀ p ∈ s.drv, p.length.toNat ≤ s.cfg.drvCap) ∧ (∀ p ∈ s.app, p.length.toNat ≤ p.capacity.toNat) ∧
    (∀ i ∈ s.bld.pkt.toList, (s.drvPkt i).length.toNat < s.cfg.drvCap ∧ (s.drvPkt i).flags &&& 0xF0 = 0)

/-- What `TX_POS`, `TX_LIT` and the packet satisfy in each state with `p` in flight (R203). -/
def State.txPhase (s : State) (p : PktId) : Bool :=
  match s.tx.state with
  | .idle => false
  | .sentStart => decide (s.tx.pos = 0)
  | .sentFlags => decide (s.tx.pos = 0)
  | .sentIndex => decide (s.tx.pos = 0) && p.appSlot.isSome
  | .sentSize1 => decide (s.tx.pos = 0)
  | .sentSize2 => decide (s.tx.pos = 0) && decide (0 < (s.lengthOf p).toNat)
  | .sentData => decide (s.tx.pos.toNat < (s.lengthOf p).toNat)
  | .sentEsc => decide (s.tx.pos.toNat < (s.lengthOf p).toNat) && isReserved s.tx.lit
  | .sentAllData => decide (s.tx.pos = s.lengthOf p)

/-- The transmit invariants (R203), with the status bits of every packet queued or being sent (R266). -/
abbrev State.TxOk (s : State) : Prop :=
  (s.tx.state = .idle ↔ s.tx.pkt = none) ∧ (s.tx.state ≠ .idle ∨ s.txq ≠ [] → s.txie = true) ∧
    (∀ p ∈ s.tx.pkt.toList, s.txPhase p = true) ∧
    (∀ p ∈ s.txq ++ s.tx.pkt.toList, s.flagsOf p &&& 0x70 = 0x10)

/-- What `RX_SIZE`, `RX_REM` and the packet satisfy in each state with `p` bound (R229). -/
def State.rxPhase (s : State) (p : PktId) : Bool :=
  match s.rx.state with
  | .awaitStart => false
  | .awaitFlags => false
  | .awaitIndex => false
  | .awaitSize1 => decide ((s.lengthOf p) = 0)
  | .awaitSize2 => decide ((s.lengthOf p) = 0)
  | .awaitDataEsc => decide (s.rx.size.toNat ≤ s.capOf p) && decide (1 ≤ s.rx.rem.toNat) &&
      decide ((s.lengthOf p).toNat + s.rx.rem.toNat = s.rx.size.toNat)
  | .awaitData => decide (s.rx.size.toNat ≤ s.capOf p) && decide (1 ≤ s.rx.rem.toNat) &&
      decide ((s.lengthOf p).toNat + s.rx.rem.toNat = s.rx.size.toNat)
  | .awaitEnd => decide (s.rx.size.toNat ≤ s.capOf p) && decide (s.rx.rem = 0) && decide (s.lengthOf p = s.rx.size)

/-- The receive bounds (R229), when a packet is bound (R235), and the status bits of a packet being received and of
every packet in RXQ (R222, R231). -/
abbrev State.RxOk (s : State) : Prop :=
  (s.rx.state = .awaitStart ∨ s.rx.state = .awaitFlags ∨ s.rx.state = .awaitIndex ↔ s.rx.pkt = none) ∧
    (∀ p ∈ s.rx.pkt.toList, s.rxPhase p = true ∧ s.flagsOf p &&& 0x70 = 0x50) ∧
    (∀ i ∈ s.rxq, (s.drvPkt i).flags &&& 0x70 = 0x60)

/-- Memories are in canonical form; host memory lists only addresses the launch admits, so none of the block's own
window (20_memory.md R77); a driver buffer lists only offsets below `DRV_CAP` (R70), and every offset below the
packet's length has been written (R71). -/
abbrev State.MemOk (s : State) : Prop :=
  s.mem.wf ∧ (∀ c ∈ s.mem, s.admits c.1 = true) ∧
    (∀ p ∈ s.drv, p.buf.wf ∧ (∀ c ∈ p.buf, c.1 < s.cfg.drvCap) ∧
      (∀ k < p.length.toNat, (p.buf.find k).isSome = true))

/-- The invariant every step keeps. -/
abbrev State.Inv (s : State) : Prop :=
  s.Fixed ∧ s.Located ∧ s.Owned ∧ s.Bounded ∧ s.TxOk ∧ s.RxOk ∧ s.MemOk

/-! ### Words of the spec's encodings -/

/-- The command word with these B, A and OP fields and RSV = 0 (30_encoding.md R101). -/
abbrev cmdWord (b a op : Byte) : Word := (0 : Byte) ++ b ++ a ++ op

/-- The bits of a word that the command's row uses: RSV, OP, and the operand bits of R103 and R106. -/
def usedBits : Instr → Word
  | .nop => 0xFF0000FF
  | .startOutgoing _ => 0xFF0300FF
  | .appendByte _ => 0xFFFF00FF
  | .appendInfer _ => 0xFFFF00FF
  | .flush => 0xFF0000FF
  | .queueTx _ _ => 0xFF0FFFFF
  | .armRx _ => 0xFF00FFFF
  | .isTxDone _ => 0xFF00FFFF
  | .isRxDone _ => 0xFF00FFFF
  | .release _ => 0xFF00FFFF
  | .rxCollect => 0xFF0000FF
  | .rxReadByte _ => 0xFF00FFFF
  | .rxFree _ => 0xFF00FFFF
  | .setActive _ => 0xFF0100FF
  | .queryActive => 0xFF0000FF

/-- The opcodes of the map (R103). -/
def opcodes : List Byte :=
  [0x00, 0x01, 0x02, 0x03, 0x04, 0x10, 0x11, 0x12, 0x13, 0x14, 0x20, 0x21, 0x22, 0x30, 0x31]

/-! ### Frames -/

/-- A command's step leaves the engines, LINK, host memory, the oracle and the launch's constants alone, and completes
its CMD write; what the foreground still has to do and has seen stays. -/
abbrev SameAround (s t : State) : Prop :=
  t.tx = s.tx ∧ t.rx = s.rx ∧ t.link = s.link ∧ t.mem = s.mem ∧ t.oracle = s.oracle ∧ t.epoch = s.epoch ∧
    t.cfg = s.cfg ∧ t.fg = { s.fg with cmdPort := none }

/-- RESULT is `0 ++ fl ++ val ++ st` and RESULT_LEN is `len` (R46, R47); the argument registers are as before (R44,
R45). -/
abbrev HasResult (s t : State) (st val fl : Byte) (len : Half) : Prop :=
  t.regs = { s.regs with result := (0 : Byte) ++ fl ++ val ++ st, resultLen := len }

/-- The only effect of a command is its result (R46). -/
abbrev OnlyResult (s t : State) (st val fl : Byte) (len : Half) : Prop :=
  SameAround s t ∧ HasResult s t st val fl len ∧ t.drv = s.drv ∧ t.app = s.app ∧ t.freeq = s.freeq ∧
    t.txq = s.txq ∧ t.rxq = s.rxq ∧ t.txie = s.txie ∧ t.bld = s.bld ∧ t.active = s.active

/-- The driver records other than those listed are as before, bytes of their buffers included. -/
abbrev OtherDrivers (s t : State) (l : List Nat) : Prop :=
  t.nDrv = s.nDrv ∧ ∀ j, j ∉ l → t.drvPkt j = s.drvPkt j ∧ ∀ k, t.dbuf j k = s.dbuf j k

/-- The application records other than the one named are as before. -/
abbrev OtherApps (s t : State) (h : Nat) : Prop := t.nApp = s.nApp ∧ ∀ g, g ≠ h → t.appPkt g = s.appPkt g

/-- The fragment open in `s`, if any, has been handed to TXQ with LAST and READY (R162); no other packet has. -/
abbrev HandedOver (s t : State) : Prop :=
  (s.bld.pkt = none → t.txq = s.txq ∧ t.txie = s.txie) ∧
    ∀ b, s.bld.pkt = some b →
      t.txq = s.txq ++ [.drv b] ∧ t.txie = true ∧
        t.drvPkt b = { s.drvPkt b with flags := (s.drvPkt b).flags ||| 0x08 ||| 0x10 }

/-- TXE has emitted `b` and its registers are now `x`; nothing else has changed but LINK's level `tx_ready`, of which
this says nothing. -/
abbrev Sends (s t : State) (b : Byte) (x : TxEngine) : Prop :=
  t = { s with link := { s.link with wire := s.link.wire ++ [b], txReady := t.link.txReady }, tx := x }

/-- `rx_abort()` (R232), spelled out: `RX_PKT` is none, RX_STATE AWAIT_START; a driver packet is emptied and appended to
FREEQ, an application slot is armed again; nothing else changes but the registers the caller gives. -/
abbrev Aborted (s t : State) (x : RxEngine) : Prop :=
  t.rx = { x with pkt := none, state := .awaitStart } ∧
    (s.rx.pkt = none → t.drv = s.drv ∧ t.app = s.app ∧ t.freeq = s.freeq) ∧
    (∀ i, s.rx.pkt = some (.drv i) →
      t.drvPkt i = { s.drvPkt i with flags := 0, length := 0 } ∧ OtherDrivers s t [i] ∧ t.app = s.app ∧
        t.freeq = s.freeq ++ [i]) ∧
    (∀ h, s.rx.pkt = some (.app h) →
      t.appPkt h = { s.appPkt h with flags := 0xD0, length := 0 } ∧ OtherApps s t h ∧ t.drv = s.drv ∧
        t.freeq = s.freeq) ∧
    t.txq = s.txq ∧ t.rxq = s.rxq ∧ t.tx = s.tx ∧ t.txie = s.txie ∧ t.bld = s.bld ∧ t.active = s.active ∧
    t.regs = s.regs ∧ t.fg = s.fg ∧ t.link = s.link ∧ t.mem = s.mem ∧ t.cfg = s.cfg ∧ t.oracle = s.oracle ∧
    t.epoch = s.epoch

/-- The transfer of `p` has completed: DONE set and READY clear in its record, and nothing else of any record changed, the
bytes of driver buffers included (42_tx_fsm.md R199, 43_rx_fsm.md R231). -/
abbrev Completed (s t : State) (p : PktId) : Prop :=
  match p with
  | .drv i =>
    t.drvPkt i = { s.drvPkt i with flags := ((s.drvPkt i).flags ||| 0x20) &&& ~~~(0x10 : Byte) } ∧
      OtherDrivers s t [i] ∧ t.app = s.app
  | .app h =>
    t.appPkt h = { s.appPkt h with flags := ((s.appPkt h).flags ||| 0x20) &&& ~~~(0x10 : Byte) } ∧
      OtherApps s t h ∧ t.drv = s.drv

/-- What an engine's step never touches: the other agents' registers and the launch's constants. -/
abbrev SameOutside (s t : State) : Prop :=
  t.bld = s.bld ∧ t.active = s.active ∧ t.regs = s.regs ∧ t.fg = s.fg ∧ t.cfg = s.cfg ∧ t.oracle = s.oracle ∧
    t.epoch = s.epoch

/-! ### When agents have a step, and when nothing more happens -/

/-- The word is an APPEND that holds in `s` (R163). -/
def State.holds (s : State) (w : Word) : Bool :=
  match decode w with
  | .ok (.appendByte _) => decide (s.bld.pkt = none) && decide (s.freeq = [])
  | .ok (.appendInfer _) => decide (s.bld.pkt = none) && decide (s.freeq = [])
  | _ => false

/-- A run has ended (70_reset_and_hazards.md R367): the foreground has completed its last command, LINK has presented
every byte and RXE has consumed it, and TXE is in IDLE with TXQ empty and `TXIE == 0`. -/
abbrev State.runEnded (s : State) : Prop :=
  s.fg.cmdPort = none ∧ s.fg.ops = [] ∧ s.link.rxData = none ∧ s.link.incoming = [] ∧ s.tx.state = .idle ∧
    s.txq = [] ∧ s.txie = false

/-- The deadlock of R357: an APPEND holds, and no driver packet is where an engine's step could free it. -/
abbrev State.deadlocked (s : State) : Prop :=
  (∃ w, s.fg.cmdPort = some w ∧ s.holds w = true) ∧ s.txq.filterMap PktId.drvSlot = [] ∧
    s.tx.pkt.bind PktId.drvSlot = none ∧ s.rx.pkt.bind PktId.drvSlot = none

/-- An execution: the states `r 0, r 1, ...`, each the turn of the agent drawn in the one before (`step` is such a turn,
of the draw its oracle gives). -/
abbrev Execution (r : Nat → State) (d : Nat → Draw) : Prop := ∀ n, (r n).turn (d n) = .next (r (n + 1))

/-- Weak fairness (70_reset_and_hazards.md R363; 60_exceptions.md R327, R329): a received byte that waits sees RXE drawn;
again and again TXIE is 0, or TXE is drawn with `tx_ready`; a foreground that has something to do is drawn. -/
abbrev Fair (r : Nat → State) (d : Nat → Draw) : Prop :=
  (∀ n, (r n).link.rxData ≠ none → ∃ m ≥ n, d m = .rxe) ∧
    (∀ n, ∃ m ≥ n, (r m).txie = false ∨ (r m).link.txReady = true ∧ d m = .txe) ∧
    (∀ n, (r n).fg.cmdPort ≠ none ∨ (r n).fg.ops ≠ [] → ∃ m ≥ n, d m = .fg)

/-- Run commands in order, each taken by its step; `none` if one answered no next state. -/
def runCommands : List Instr → State → Option State
  | [], s => some s
  | i :: rest, s =>
    match exec i s with
    | .next t => runCommands rest t
    | .fault _ => none
    | .refused _ => none

/-- The bytes of the payload of `p` as TXE would read them are `d` (R200). -/
abbrev State.Payload (s : State) (p : PktId) (d : List Byte) : Prop :=
  d.length = (s.lengthOf p).toNat ∧ ∀ k, (hk : k < d.length) → s.txByte p k = some d[k]

/-- The INDEX byte of a packet's frame: present exactly when it is application-owned (R114). -/
def State.frameIndex (s : State) (p : PktId) : Option Byte :=
  match p with
  | .drv _ => none
  | .app h => some (s.appPkt h).index

end Sys2Proof.Machine
end

