-- ==== Sys2Proof/Certificates/Slice0/Obligations.lean ====
section
/-! DEFINITION. The statements for the provers: what the numbered rules of the spec say the commands, the engines and
the machine do. -/

open Sys2Proof Sys2Proof.Machine

/-! ### Encoding -/

/-- The words the spec writes out (95_test_vectors.md V-E1 to V-E20) decode as it says. -/
def Obligations.WrittenWordsDecode : Prop :=
  decode 0x00000000 = .ok .nop ∧ decode 0x00010001 = .ok (.startOutgoing 0x01) ∧
  decode 0x00410002 = .ok (.appendByte 0x41) ∧ decode 0x001B0003 = .ok (.appendInfer 0x1B) ∧
  decode 0x00000004 = .ok .flush ∧ decode 0x000E0510 = .ok (.queueTx 0x05 0x0E) ∧
  decode 0x00000311 = .ok (.armRx 0x03) ∧ decode 0x00000512 = .ok (.isTxDone 0x05) ∧
  decode 0x00000713 = .ok (.isRxDone 0x07) ∧ decode 0x00000514 = .ok (.release 0x05) ∧
  decode 0x00000020 = .ok .rxCollect ∧ decode 0x00000021 = .ok (.rxReadByte 0x00) ∧
  decode 0x00000122 = .ok (.rxFree 0x01) ∧ decode 0x00010030 = .ok (.setActive 0x01) ∧
  decode 0x00000031 = .ok .queryActive ∧ decode 0x00FF2004 = .ok .flush ∧
  decode 0x00FF0001 = .ok (.startOutgoing 0x03) ∧ decode 0x00000005 = .error (.illegalOpcode 0x05) ∧
  decode 0x01000002 = .error .reservedBits ∧ decode 0x12340004 = .error .reservedBits

/-- Decoding the word of a well-formed command gives it back, and so does decoding the word's four bytes (R101, R103);
and what decoding answers is well-formed (which operand bits count: R106; operands as bytes cut to them: the model's
choice, log entry 19). -/
def Obligations.DecodeOfEncodeIsIdentity : Prop :=
  (∀ i : Instr, i.wf = true →
    decode (encode i) = .ok i ∧ decodeBytes (bytesOfWord (encode i)) = .ok (i, [])) ∧
  ∀ (w : Word) (i : Instr), decode w = .ok i → i.wf = true

/-- R106: the bits a command does not use are ignored whatever their value, and whether a word is a command is settled by
OP and RSV alone. -/
def Obligations.UnusedBitsAreIgnored : Prop :=
  (∀ (w v : Word) (i : Instr), decode w = .ok i → v &&& usedBits i = w &&& usedBits i → decode v = .ok i) ∧
  (∀ w v : Word, w &&& 0xFF0000FF = v &&& 0xFF0000FF →
    ((∃ i, decode w = .ok i) ↔ ∃ i, decode v = .ok i))

/-- R104, R105, R303: a word is no command exactly when RSV is not zero or OP is not in the opcode map, and its step then
writes `result(ILLEGAL, 0, 0, 0)` and changes nothing else. -/
def Obligations.IllegalWordOnlyAnswersIllegal : Prop :=
  (∀ w : Word, (∃ r, decode w = .error r) ↔ w.extractLsb' 24 8 ≠ 0 ∨ w.extractLsb' 0 8 ∉ opcodes) ∧
  (∀ (s : State) (w : Word), w.extractLsb' 24 8 ≠ 0 ∨ w.extractLsb' 0 8 ∉ opcodes →
    ∃ t, s.runCommand w = .next t ∧ OnlyResult s t 0x04 0 0 0)

/-! ### Control commands -/

/-- R300 to R302, R38: SET_ACTIVE stores B[0] in ACTIVE, QUERY_ACTIVE answers it, NOP answers OK; nothing else changes
but the result. ACTIVE gates nothing: every other command, and each engine, does the same whatever it is. -/
def Obligations.ControlCommandsAnswer : Prop :=
  (∀ (i : Instr) (s t : State) (c : Bool), i ≠ .queryActive → (∀ x, i ≠ .setActive x) → exec i s = .next t →
    exec i { s with active := c } = .next { t with active := c }) ∧
  (∀ (s : State) (c : Bool), State.txTurn { s with active := c } = { s.txTurn with active := c } ∧
    State.rxTurn { s with active := c } = { s.rxTurn with active := c }) ∧
  ∀ (s : State) (a b : Byte),
    decode (cmdWord b a 0x30) = .ok (.setActive (b &&& 0x01)) ∧ decode (cmdWord b a 0x31) = .ok .queryActive ∧
    decode (cmdWord b a 0x00) = .ok .nop ∧
    (∃ t, exec (.setActive (b &&& 0x01)) s = .next t ∧ t.active = b.getLsbD 0 ∧
      HasResult s t 0 (if b.getLsbD 0 then 1 else 0) 0 0 ∧ SameAround s t ∧ t.drv = s.drv ∧ t.app = s.app ∧
      t.freeq = s.freeq ∧ t.txq = s.txq ∧ t.rxq = s.rxq ∧ t.txie = s.txie ∧ t.bld = s.bld) ∧
    (∃ t, exec .queryActive s = .next t ∧ OnlyResult s t 0 (if s.active then 1 else 0) 0 0) ∧
    (∃ t, exec .nop s = .next t ∧ OnlyResult s t 0 0 0 0)

/-! ### Builder commands -/

/-- R161, R162: START_OUTGOING hands over the open fragment, records the usage, and opens the head of FREEQ with that
usage and FIRST, or answers UNAVAILABLE; it never holds. -/
def Obligations.StartOutgoingOpensOrFails : Prop :=
  ∀ (s : State) (a b : Byte), s.Located →
    decode (cmdWord b a 0x01) = .ok (.startOutgoing (b &&& 0x03)) ∧
    ∃ t, exec (.startOutgoing (b &&& 0x03)) s = .next t ∧ HandedOver s t ∧ SameAround s t ∧ t.app = s.app ∧
      t.rxq = s.rxq ∧ t.active = s.active ∧
      match s.freeq with
      | [] => t.freeq = [] ∧ t.bld = { pkt := none, carry := b.extractLsb' 0 2, cont := false } ∧
          HasResult s t 0x01 0 0 0 ∧ OtherDrivers s t s.bld.pkt.toList
      | i :: rest => t.freeq = rest ∧ t.bld = { pkt := some i, carry := b.extractLsb' 0 2, cont := false } ∧
          t.drvPkt i = { s.drvPkt i with flags := (b &&& 0x03) ||| 0x04, length := 0 } ∧
          HasResult s t 0 (BitVec.ofNat 8 i) ((b &&& 0x03) ||| 0x04) 0 ∧
          OtherDrivers s t (i :: s.bld.pkt.toList)

/-- R164: APPEND_BYTE, where it has a step (R163). `i` is the fragment's slot, `f` and `n` its flags and length before
the byte, `q` the FREEQ it leaves: those of the open fragment, or of the one it starts. -/
def Obligations.AppendByteStoresAndCloses : Prop :=
  ∀ (s : State) (a b : Byte) (i : Nat) (f : Byte) (n : Half) (q : List Nat), s.Located →
    (s.bld.pkt = some i ∧ f = (s.drvPkt i).flags ∧ n = (s.drvPkt i).length ∧ q = s.freeq ∨
      s.bld.pkt = none ∧ s.freeq = i :: q ∧ f = s.bld.carry.setWidth 8 ||| (if s.bld.cont then 0x00 else 0x04) ∧
        n = 0) →
    decode (cmdWord b a 0x02) = .ok (.appendByte b) ∧
    ∃ t, exec (.appendByte b) s = .next t ∧ t.freeq = q ∧ (t.drvPkt i).length = n + 1 ∧
      (∀ k, t.dbuf i k = if k = n.toNat then b else s.dbuf i k) ∧
      (if (n + 1).toNat = s.cfg.drvCap then
        (t.drvPkt i).flags = f ||| 0x10 ∧ t.txq = s.txq ++ [.drv i] ∧ t.txie = true ∧
          t.bld = { pkt := none, carry := f.extractLsb' 0 2, cont := true } ∧
          HasResult s t 0 (BitVec.ofNat 8 i) (f ||| 0x10) (n + 1)
      else
        (t.drvPkt i).flags = f ∧ t.txq = s.txq ∧ t.txie = s.txie ∧ t.bld = { s.bld with pkt := some i } ∧
          HasResult s t 0 (BitVec.ofNat 8 i) f (n + 1)) ∧
      OtherDrivers s t [i] ∧ SameAround s t ∧ t.app = s.app ∧ t.rxq = s.rxq ∧ t.active = s.active

/-- R165, R167: APPEND_INFER, where it has a step, first sets the carry to print (0) for a printable byte and to command
(1) otherwise, when no fragment is open and no message is being continued, and is then APPEND_BYTE. -/
def Obligations.AppendInferChoosesUsage : Prop :=
  ∀ (s : State) (a b : Byte), s.bld.pkt ≠ none ∨ s.freeq ≠ [] →
    decode (cmdWord b a 0x03) = .ok (.appendInfer b) ∧
    ∃ t, exec (.appendInfer b) s = .next t ∧ t.fg.cmdPort = none ∧
      exec (.appendByte b)
        (if s.bld.pkt = none ∧ s.bld.cont = false then
          { s with bld := { s.bld with carry := if 0x20 ≤ b.toNat ∧ b.toNat ≤ 0x7E then 0 else 1 } }
        else s) = .next t

/-- R163: an APPEND with no open fragment and FREEQ empty holds: its turn changes nothing and its CMD write stays
outstanding; with an open fragment or a free packet it takes its step and completes. That the agent without a step is a
turn that only uses up the draw, and where the word stands meanwhile, is the model's reading (log entries 3, 4). -/
def Obligations.AppendHoldsExactlyWhenExhausted : Prop :=
  ∀ (s : State) (w : Word) (b : Byte),
    s.nextDraw = .fg → s.fg.cmdPort = some w → decode w = .ok (.appendByte b) ∨ decode w = .ok (.appendInfer b) →
    (s.bld.pkt = none ∧ s.freeq = [] → step s = .next s.afterDraw) ∧
    (s.bld.pkt ≠ none ∨ s.freeq ≠ [] → ∃ t, step s = .next t ∧ t.fg.cmdPort = none)

/-- R166, R162: FLUSH. -/
def Obligations.FlushHandsOverAndClearsCarry : Prop :=
  ∀ (s : State) (a b : Byte), s.Located → decode (cmdWord b a 0x04) = .ok .flush ∧
    ∃ t, exec .flush s = .next t ∧ HandedOver s t ∧ t.bld = { pkt := none, carry := 0, cont := false } ∧
      HasResult s t 0 0 0 0 ∧ OtherDrivers s t s.bld.pkt.toList ∧ SameAround s t ∧ t.freeq = s.freeq ∧
      t.app = s.app ∧ t.rxq = s.rxq ∧ t.active = s.active

/-! ### Application commands -/

/-- R261, R260, R147: QUEUE_TX. -/
def Obligations.QueueTxQueuesTheSlot : Prop :=
  ∀ (s : State) (h b : Byte), decode (cmdWord b h 0x10) = .ok (.queueTx h (b &&& 0x0F)) ∧
    ∃ t, exec (.queueTx h (b &&& 0x0F)) s = .next t ∧
      if s.nApp ≤ h.toNat then OnlyResult s t 0x03 0 0 0
      else if h.toNat ∈ s.appPlaces then OnlyResult s t 0x02 h 0 0
      else
        t.appPkt h.toNat =
          { flags := (b &&& 0x0F) ||| 0x80 ||| 0x10, capacity := s.regs.argLen, length := s.regs.argLen,
            buffer := s.regs.argAddr, index := (s.appPkt h.toNat).index } ∧
        t.txq = s.txq ++ [.app h.toNat] ∧ t.txie = true ∧
        HasResult s t 0 h ((b &&& 0x0F) ||| 0x80 ||| 0x10) s.regs.argLen ∧ OtherApps s t h.toNat ∧ SameAround s t ∧
        t.drv = s.drv ∧ t.freeq = s.freeq ∧ t.rxq = s.rxq ∧ t.bld = s.bld ∧ t.active = s.active

/-- R262, R260, R147: ARM_RX. -/
def Obligations.ArmRxArmsTheSlot : Prop :=
  ∀ (s : State) (h b : Byte), decode (cmdWord b h 0x11) = .ok (.armRx h) ∧
    ∃ t, exec (.armRx h) s = .next t ∧
      if s.nApp ≤ h.toNat then OnlyResult s t 0x03 0 0 0
      else if h.toNat ∈ s.appPlaces then OnlyResult s t 0x02 h 0 0
      else
        t.appPkt h.toNat =
          { flags := 0xD0, capacity := s.regs.argLen, length := 0, buffer := s.regs.argAddr,
            index := (s.appPkt h.toNat).index } ∧
        HasResult s t 0 h 0xD0 s.regs.argLen ∧ OtherApps s t h.toNat ∧ SameAround s t ∧ t.drv = s.drv ∧
        t.freeq = s.freeq ∧ t.txq = s.txq ∧ t.rxq = s.rxq ∧ t.txie = s.txie ∧ t.bld = s.bld ∧ t.active = s.active

/-- R263, R264, R260: the two predicates write only the result: DONE with FOR_RX clear, and DONE with FOR_RX set. -/
def Obligations.PredicatesReportDone : Prop :=
  ∀ (s : State) (h b : Byte),
    decode (cmdWord b h 0x12) = .ok (.isTxDone h) ∧ decode (cmdWord b h 0x13) = .ok (.isRxDone h) ∧
    (∃ t, exec (.isTxDone h) s = .next t ∧
      if s.nApp ≤ h.toNat then OnlyResult s t 0x03 0 0 0
      else OnlyResult s t 0 (if (s.appPkt h.toNat).flags &&& 0x60 = 0x20 then 1 else 0) (s.appPkt h.toNat).flags
        (s.appPkt h.toNat).length) ∧
    (∃ t, exec (.isRxDone h) s = .next t ∧
      if s.nApp ≤ h.toNat then OnlyResult s t 0x03 0 0 0
      else OnlyResult s t 0 (if (s.appPkt h.toNat).flags &&& 0x60 = 0x60 then 1 else 0) (s.appPkt h.toNat).flags
        (s.appPkt h.toNat).length)

/-- R267: the predicates write only RESULT and RESULT_LEN; repeated with no step between, they give the same state, the
result included. -/
def Obligations.PredicatesRepeatUnchanged : Prop :=
  ∀ (s : State) (h : Byte), ∀ i ∈ [Instr.isTxDone h, Instr.isRxDone h],
    ∃ t, exec i s = .next t ∧ (∃ st val fl len, OnlyResult s t st val fl len) ∧ exec i t = .next t

/-- R265, R260, R147: RELEASE. -/
def Obligations.ReleaseClearsStatusBits : Prop :=
  ∀ (s : State) (h b : Byte), decode (cmdWord b h 0x14) = .ok (.release h) ∧
    ∃ t, exec (.release h) s = .next t ∧
      if s.nApp ≤ h.toNat then OnlyResult s t 0x03 0 0 0
      else if h.toNat ∈ s.appPlaces then OnlyResult s t 0x02 h 0 0
      else
        t.appPkt h.toNat = { s.appPkt h.toNat with flags := (s.appPkt h.toNat).flags &&& 0x8F } ∧
        HasResult s t 0 h ((s.appPkt h.toNat).flags &&& 0x8F) (s.appPkt h.toNat).length ∧ OtherApps s t h.toNat ∧
        SameAround s t ∧ t.drv = s.drv ∧ t.freeq = s.freeq ∧ t.txq = s.txq ∧ t.rxq = s.rxq ∧ t.txie = s.txie ∧
        t.bld = s.bld ∧ t.active = s.active

/-- R88, R358: after a QUEUE_TX of a handle, with no engine step between, an attempt to queue, arm or release it is
answered BUSY and changes nothing. -/
def Obligations.SecondQueueAttemptIsBusy : Prop :=
  ∀ (s t : State) (h f g : Byte), h.toNat < s.nApp → h.toNat ∉ s.appPlaces → exec (.queueTx h f) s = .next t →
    (∃ u, exec (.queueTx h g) t = .next u ∧ OnlyResult t u 0x02 h 0 0) ∧
    (∃ u, exec (.armRx h) t = .next u ∧ OnlyResult t u 0x02 h 0 0) ∧
    (∃ u, exec (.release h) t = .next u ∧ OnlyResult t u 0x02 h 0 0)

/-! ### Consumer commands -/

/-- R290: RX_COLLECT. -/
def Obligations.RxCollectTakesTheOldest : Prop :=
  ∀ (s : State) (a b : Byte), decode (cmdWord b a 0x20) = .ok .rxCollect ∧
    ∃ t, exec .rxCollect s = .next t ∧
      match s.rxq with
      | [] => OnlyResult s t 0x05 0 0 0
      | i :: rest => t.rxq = rest ∧
          HasResult s t 0 (BitVec.ofNat 8 i) (s.drvPkt i).flags (s.drvPkt i).length ∧ SameAround s t ∧
          t.drv = s.drv ∧ t.app = s.app ∧ t.freeq = s.freeq ∧ t.txq = s.txq ∧ t.txie = s.txie ∧ t.bld = s.bld ∧
          t.active = s.active

/-- R291: RX_READ_BYTE; a slot is consumer-held when it is in range and in none of the places of R145. -/
def Obligations.RxReadByteReadsHeldPackets : Prop :=
  ∀ (s : State) (i b : Byte), decode (cmdWord b i 0x21) = .ok (.rxReadByte i) ∧
    ∃ t, exec (.rxReadByte i) s = .next t ∧
      if ¬(i.toNat < s.nDrv ∧ i.toNat ∉ s.drvPlaces) then OnlyResult s t 0x03 0 0 0
      else if (s.drvPkt i.toNat).length.toNat ≤ s.regs.argLen.toNat then OnlyResult s t 0x06 0 0 0
      else OnlyResult s t 0 (s.dbuf i.toNat s.regs.argLen.toNat) (s.drvPkt i.toNat).flags (s.drvPkt i.toNat).length

/-- R292: RX_FREE. -/
def Obligations.RxFreeReturnsHeldPackets : Prop :=
  ∀ (s : State) (i b : Byte), decode (cmdWord b i 0x22) = .ok (.rxFree i) ∧
    ∃ t, exec (.rxFree i) s = .next t ∧
      if ¬(i.toNat < s.nDrv ∧ i.toNat ∉ s.drvPlaces) then OnlyResult s t 0x03 0 0 0
      else
        t.drvPkt i.toNat = { s.drvPkt i.toNat with flags := 0, length := 0 } ∧ t.freeq = s.freeq ++ [i.toNat] ∧
        HasResult s t 0 i 0 0 ∧ OtherDrivers s t [i.toNat] ∧ SameAround s t ∧ t.app = s.app ∧ t.txq = s.txq ∧
        t.rxq = s.rxq ∧ t.txie = s.txie ∧ t.bld = s.bld ∧ t.active = s.active

/-- R146: no command but RX_COLLECT makes a driver packet consumer-held, none but RX_FREE makes one no longer so, and no
turn of an engine does either. -/
def Obligations.OnlyTheConsumerHolds : Prop :=
  ∀ (s t : State) (i : Nat), s.Inv →
    (∀ c, exec c s = .next t → c ≠ .rxCollect → t.held i = true → s.held i = true) ∧
    (∀ c, exec c s = .next t → (∀ a, c ≠ .rxFree a) → s.held i = true → t.held i = true) ∧
    s.rxTurn.held i = s.held i ∧ s.txTurn.held i = s.held i

/-! ### All commands -/

/-- R320: no command and no step faults: a command answers a next state in every state, and a step does too, or is the
refusal of a foreground access: a register access that is no aligned 32-bit access of the window (R81; alignment counted
from REG_BASE, log entry 12; one outside the window, log entry 13), or a byte access in the window (R81). An APPEND that
holds (R163) and an engine whose host access is refused (R322, R73, R74) have no step in the spec: that their turn
answers a next state in which nothing of theirs has changed is the model's reading (log entry 3). -/
def Obligations.NothingFaults : Prop :=
  (∀ (i : Instr) (s : State), ∃ t, exec i s = .next t) ∧
  (∀ s : State, (∃ t, step s = .next t) ∨
    (s.nextDraw = .fg ∧ s.fg.cmdPort = none ∧ ∃ op rest, s.fg.ops = op :: rest ∧
      ((∃ addr size v, (op = .regWrite addr size v ∨ op = .regRead addr size) ∧
        ¬(size = 4 ∧ s.cfg.regBase ≤ addr ∧ addr < s.cfg.regBase + 32 ∧ (addr - s.cfg.regBase) % 4 = 0)) ∨
      (∃ a b, (op = .poke a b ∨ op = .peek a) ∧ s.cfg.regBase ≤ a ∧ a < s.cfg.regBase + 32))))

/-- R44, R45, R82: no command touches an engine, the link, host memory or the argument registers. -/
def Obligations.CommandsLeaveTheEnginesAlone : Prop :=
  ∀ (i : Instr) (s t : State), exec i s = .next t →
    t.tx = s.tx ∧ t.rx = s.rx ∧ t.link = s.link ∧ t.mem = s.mem ∧ t.oracle = s.oracle ∧ t.cfg = s.cfg ∧
    t.epoch = s.epoch ∧ t.regs.argLen = s.regs.argLen ∧ t.regs.argAddr = s.regs.argAddr ∧ t.fg.ops = s.fg.ops ∧
    t.fg.seen = s.fg.seen ∧ t.nDrv = s.nDrv ∧ t.nApp = s.nApp

/-- R304: on a status other than OK no state other than RESULT and RESULT_LEN changes, but for START_OUTGOING's
UNAVAILABLE. -/
def Obligations.FailedCommandsChangeNothing : Prop :=
  ∀ (i : Instr) (s t : State), exec i s = .next t → (∀ u, i ≠ .startOutgoing u) → t.fg.cmdPort = none →
    t.regs.result.extractLsb' 0 8 ≠ 0 →
    t = { s with
          regs := { s.regs with result := t.regs.result, resultLen := t.regs.resultLen }
          fg := { s.fg with cmdPort := none } } ∨ t = s

/-! ### The register window -/

/-- R42 to R47, R49: what an aligned 32-bit write and read of each register does. A read changes nothing but what the
foreground has seen. -/
def Obligations.RegisterWindow : Prop :=
  (∀ (s : State) (v : Word),
    s.regWrite s.cfg.regBase 4 v = State.runCommand { s with fg := { s.fg with cmdPort := some v } } v ∧
    s.regWrite (s.cfg.regBase + 0x04) 4 v = .next { s with regs := { s.regs with argLen := v.extractLsb' 0 16 } } ∧
    s.regWrite (s.cfg.regBase + 0x08) 4 v =
      .next { s with regs := { s.regs with argAddr := BitVec.ofNat 32 (v.toNat % 2 ^ s.cfg.addrW) } } ∧
    ∀ off ∈ [0x0C, 0x10, 0x14, 0x18, 0x1C], s.regWrite (s.cfg.regBase + off) 4 v = .next s) ∧
  (∀ (s : State) (off : Nat) (v : Word),
    (off, v) ∈ [(0x00, 0), (0x04, (0 : BitVec 16) ++ s.regs.argLen), (0x08, s.regs.argAddr), (0x0C, s.regs.result),
      (0x10, (0 : BitVec 16) ++ s.regs.resultLen), (0x14, s.statusWord), (0x18, 0), (0x1C, 0)] →
    s.regRead (s.cfg.regBase + off) 4 = .next { s with fg := { s.fg with seen := s.fg.seen ++ [v] } })

/-- R48, with the numbers of R34 and R36: the fields of STATUS; a read shows them and changes nothing but what the foreground has seen, a write changes
nothing. -/
def Obligations.StatusFieldsShowTheState : Prop :=
  ∀ s : State, s.Inv →
    s.statusWord.getLsbD 0 = s.active ∧ s.statusWord.getLsbD 1 = s.txie ∧
    s.statusWord.getLsbD 2 = s.bld.pkt.isSome ∧ s.statusWord.getLsbD 3 = s.bld.cont ∧
    s.statusWord.extractLsb' 4 2 = s.bld.carry ∧ s.statusWord.extractLsb' 6 2 = 0 ∧
    (s.tx.state, s.statusWord.extractLsb' 8 4) ∈
      [(TxState.idle, (0 : BitVec 4)), (.sentStart, 1), (.sentFlags, 2), (.sentIndex, 3), (.sentSize1, 4),
        (.sentSize2, 5), (.sentData, 6), (.sentEsc, 7), (.sentAllData, 8)] ∧
    (s.rx.state, s.statusWord.extractLsb' 12 3) ∈
      [(RxState.awaitStart, (0 : BitVec 3)), (.awaitFlags, 1), (.awaitIndex, 2), (.awaitSize1, 3), (.awaitSize2, 4),
        (.awaitDataEsc, 5), (.awaitData, 6), (.awaitEnd, 7)] ∧
    s.statusWord.getLsbD 15 = false ∧ (s.statusWord.extractLsb' 16 8).toNat = s.freeq.length ∧
    (s.statusWord.extractLsb' 24 8).toNat = s.rxq.length ∧
    s.regRead (s.cfg.regBase + 0x14) 4 = .next { s with fg := { s.fg with seen := s.fg.seen ++ [s.statusWord] } } ∧
    ∀ v, s.regWrite (s.cfg.regBase + 0x14) 4 v = .next s

/-- R81, R49: an access that touches the window and is not an aligned 32-bit access of one of its words is refused, a
byte access of the foreground included. Alignment is counted from REG_BASE: the model's reading, log entry 12. -/
def Obligations.OtherWindowAccessesAreRefused : Prop :=
  (∀ (s : State) (a : Nat) (b : Byte), s.cfg.regBase ≤ a → a < s.cfg.regBase + 32 →
    s.poke a b = .refused .windowAccess ∧ s.peek a = .refused .windowAccess) ∧
  ∀ (s : State) (addr size : Nat) (v : Word),
    addr < s.cfg.regBase + 32 → s.cfg.regBase < addr + size →
    ¬(size = 4 ∧ ∃ k < 8, addr = s.cfg.regBase + 4 * k) →
    s.regWrite addr size v = .refused .windowAccess ∧ s.regRead addr size = .refused .windowAccess

/-! ### The transmit engine -/

/-- R190, R73: TXE steps exactly when `tx_ready` and TXIE hold; a step the launch memory refuses is none, and
its turn changes nothing (log entry 3). -/
def Obligations.TxeStepsOnReadyAndEnabled : Prop :=
  ∀ s : State,
    (¬(s.link.txReady = true ∧ s.txie = true) → s.turn .txe = .next s) ∧
    (s.link.txReady = true → s.txie = true →
      (∀ t, s.txStep = some t → s.turn .txe = .next t) ∧ (s.txStep = none → s.turn .txe = .next s)) ∧
    (∀ h, (s.tx.state = .sentSize2 ∨ s.tx.state = .sentData) → s.tx.pkt = some (.app h) →
      s.admits (((s.appPkt h).buffer.toNat + s.tx.pos.toNat) % 2 ^ s.cfg.addrW) = false → s.turn .txe = .next s)

/-- R191: the IDLE step. -/
def Obligations.TxIdleStartsOrDisables : Prop :=
  ∀ s : State, s.tx.state = .idle →
    match s.txq with
    | [] => s.txStep = some { s with txie := false }
    | p :: rest => ∃ t, s.txStep = some t ∧
        Sends { s with txq := rest } t 0x8C { s.tx with state := .sentStart, pkt := some p, pos := 0 }

/-- R192 to R195: the header steps: wire flags, INDEX or SIZE low, SIZE low, SIZE high; none is escaped. -/
def Obligations.TxHeaderBytes : Prop :=
  ∀ (s : State) (p : PktId), s.tx.pkt = some p →
    (s.tx.state = .sentStart → ∃ t, s.txStep = some t ∧
      Sends s t (s.flagsOf p &&& 0x8F) { s.tx with state := .sentFlags }) ∧
    (s.tx.state = .sentFlags → ∀ h, p = .app h → (s.flagsOf p).getLsbD 7 = true → ∃ t, s.txStep = some t ∧
      Sends s t (s.appPkt h).index { s.tx with state := .sentIndex }) ∧
    (s.tx.state = .sentFlags → (s.flagsOf p).getLsbD 7 = false → ∃ t, s.txStep = some t ∧
      Sends s t ((s.lengthOf p).extractLsb' 0 8) { s.tx with state := .sentSize1 }) ∧
    (s.tx.state = .sentIndex → ∃ t, s.txStep = some t ∧
      Sends s t ((s.lengthOf p).extractLsb' 0 8) { s.tx with state := .sentSize1 }) ∧
    (s.tx.state = .sentSize1 → ∃ t, s.txStep = some t ∧
      Sends s t ((s.lengthOf p).extractLsb' 8 8)
        { s.tx with state := if s.lengthOf p = 0 then .sentAllData else .sentSize2 })

/-- R196 to R198, R200, R201, R75: the payload steps: the byte, or ESCAPE and then the latched literal. -/
def Obligations.TxPayloadBytes : Prop :=
  ∀ (s : State) (p : PktId), s.tx.pkt = some p →
    (∀ b : Byte, s.tx.state = .sentSize2 ∨ s.tx.state = .sentData →
      (match p with
        | .drv i => b = s.dbuf i s.tx.pos.toNat
        | .app h => s.admits (((s.appPkt h).buffer.toNat + s.tx.pos.toNat) % 2 ^ s.cfg.addrW) = true ∧
            b = s.memByte (((s.appPkt h).buffer.toNat + s.tx.pos.toNat) % 2 ^ s.cfg.addrW)) →
      ∃ t, s.txStep = some t ∧
        if b = 0x8C ∨ b = 0x9D ∨ b = 0xAE then Sends s t 0x9D { s.tx with lit := b, state := .sentEsc }
        else Sends s t b { s.tx with
          pos := s.tx.pos + 1
          state := if s.tx.pos + 1 = s.lengthOf p then .sentAllData else .sentData }) ∧
    (s.tx.state = .sentEsc → ∃ t, s.txStep = some t ∧
      Sends s t s.tx.lit { s.tx with
        pos := s.tx.pos + 1
        state := if s.tx.pos + 1 = s.lengthOf p then .sentAllData else .sentData })

/-- R199: the END step: DONE set and READY clear in the packet's record and nothing else of it changed, a driver packet
back at the tail of FREEQ, the engine idle. -/
def Obligations.TxEndCompletesThePacket : Prop :=
  ∀ (s : State) (p : PktId), s.Located → s.tx.state = .sentAllData → s.tx.pkt = some p →
    ∃ t, s.txStep = some t ∧ t.link.wire = s.link.wire ++ [0xAE] ∧
      t.link.rxData = s.link.rxData ∧ t.link.incoming = s.link.incoming ∧
      t.tx = { s.tx with pkt := none, state := .idle } ∧ SameOutside s t ∧ t.rx = s.rx ∧ t.txq = s.txq ∧
      t.rxq = s.rxq ∧ t.txie = s.txie ∧ t.mem = s.mem ∧ Completed s t p ∧
      t.freeq = s.freeq ++ p.drvSlot.toList

/-- R204, R110, R115, R117: the framing law. From IDLE with `p` at the head of TXQ, as many steps as the frame has bytes
emit exactly the frame of `p` and end in IDLE, whatever its payload; their number is `5 + a + n + r`. `p` is done, a
driver packet back in FREEQ; nothing else changes but TX_POS, TX_LIT and the level `tx_ready`. -/
def Obligations.TransmitterEmitsTheFrame : Prop :=
  ∀ (s : State) (p : PktId) (rest : List PktId) (d : List Byte),
    s.Inv → s.tx.state = .idle → s.txq = p :: rest → s.Payload p d →
    (frameOf (s.flagsOf p) (s.frameIndex p) d).length =
      5 + (if (s.flagsOf p).getLsbD 7 then 1 else 0) + d.length +
        (d.filter (fun b => b = 0x8C ∨ b = 0x9D ∨ b = 0xAE)).length ∧
    ∃ t, s.txSlots (frameOf (s.flagsOf p) (s.frameIndex p) d).length = some t ∧
      t.link.wire = s.link.wire ++ frameOf (s.flagsOf p) (s.frameIndex p) d ∧
      t.tx.state = .idle ∧ t.tx.pkt = none ∧ t.txq = rest ∧ Completed s t p ∧
      t.freeq = s.freeq ++ p.drvSlot.toList ∧ t.mem = s.mem ∧ t.rx = s.rx ∧ t.rxq = s.rxq ∧ t.txie = s.txie ∧
      t.link.rxData = s.link.rxData ∧ t.link.incoming = s.link.incoming ∧ SameOutside s t

/-! ### The receive engine -/

/-- R220, R327, R74: RXE steps exactly when a byte is presented, and consumes it; a step the launch memory refuses is
none, its turn changes nothing (log entry 3), and the byte stays. No step of any agent loses, duplicates or reorders the
bytes still to be consumed: they stay as they are, or a turn of RXE takes the first. -/
def Obligations.RxeStepsOnAPresentedByte : Prop :=
  (∀ s t : State, step s = .next t →
    t.link.rxData.toList ++ t.link.incoming = s.link.rxData.toList ++ s.link.incoming ∨
    (s.nextDraw = .rxe ∧ t.link.rxData = none ∧
      ∃ b, s.link.rxData = some b ∧ b :: t.link.incoming = s.link.rxData.toList ++ s.link.incoming)) ∧
  ∀ s : State,
    (s.link.rxData = none → s.turn .rxe = .next s) ∧
    (∀ b t, s.link.rxData = some b → State.rxStep { s with link := { s.link with rxData := none } } b = some t →
      s.turn .rxe = .next t) ∧
    (∀ b h, s.link.rxData = some b → s.rx.pkt = some (.app h) →
      s.rx.state = .awaitData ∨ s.rx.state = .awaitDataEsc ∧ b ≠ 0x9D →
      s.admits (((s.appPkt h).buffer.toNat + (s.appPkt h).length.toNat) % 2 ^ s.cfg.addrW) = false →
      s.turn .rxe = .next s)

/-- R221, R222, R118: AWAIT_START waits for START and discards every other byte; AWAIT_FLAGS records the kept flags, and
then an application packet's index follows, or a driver packet is allocated from FREEQ, or the frame is aborted because
the pool is exhausted. -/
def Obligations.RxStartAndFlags : Prop :=
  ∀ (s : State) (b : Byte), s.Located →
    (s.rx.state = .awaitStart →
      s.rxStep b = some (if b = 0x8C then { s with rx := { s.rx with state := .awaitFlags } } else s)) ∧
    (s.rx.state = .awaitFlags → ∃ t, s.rxStep b = some t ∧
      if b.getLsbD 7 = true then
        t = { s with rx := { s.rx with flags := (b &&& 0x8F) ||| 0x40 ||| 0x10, state := .awaitIndex } }
      else
        match s.freeq with
        | [] => Aborted s t { s.rx with flags := (b &&& 0x8F) ||| 0x40 ||| 0x10 }
        | i :: rest =>
          t.rx = { s.rx with flags := (b &&& 0x8F) ||| 0x40 ||| 0x10, pkt := some (.drv i), state := .awaitSize1 } ∧
          t.freeq = rest ∧
          t.drvPkt i = { s.drvPkt i with flags := (b &&& 0x8F) ||| 0x40 ||| 0x10, length := 0 } ∧
          OtherDrivers s t [i] ∧ t.app = s.app ∧ t.txq = s.txq ∧ t.rxq = s.rxq ∧ t.tx = s.tx ∧ t.txie = s.txie ∧
          t.link = s.link ∧ t.mem = s.mem ∧ SameOutside s t)

/-- R223, R233: AWAIT_INDEX binds an armed slot in range, and aborts otherwise. -/
def Obligations.RxIndexBindsArmedSlots : Prop :=
  ∀ (s : State) (b : Byte), s.Located → s.rx.state = .awaitIndex →
    ∃ t, s.rxStep b = some t ∧
      if b.toNat < s.nApp ∧ (s.appPkt b.toNat).flags &&& 0x70 = 0x50 then
        t.rx = { s.rx with pkt := some (.app b.toNat), state := .awaitSize1 } ∧
        t.appPkt b.toNat = { s.appPkt b.toNat with flags := s.rx.flags, length := 0 } ∧
        OtherApps s t b.toNat ∧ t.drv = s.drv ∧ t.freeq = s.freeq ∧ t.txq = s.txq ∧ t.rxq = s.rxq ∧ t.tx = s.tx ∧
        t.txie = s.txie ∧ t.link = s.link ∧ t.mem = s.mem ∧ SameOutside s t
      else Aborted s t s.rx

/-- R224, R225, R230: the SIZE bytes, low then high; a size above the capacity aborts, a size of 0 has no payload. -/
def Obligations.RxSizeIsCheckedAgainstCapacity : Prop :=
  ∀ (s : State) (b : Byte), s.Located →
    (s.rx.state = .awaitSize1 →
      s.rxStep b = some { s with rx := { s.rx with size := (0 : Byte) ++ b, state := .awaitSize2 } }) ∧
    (∀ p, s.rx.state = .awaitSize2 → s.rx.pkt = some p → ∃ (t : State) (n : Half), s.rxStep b = some t ∧
      n = b ++ s.rx.size.extractLsb' 0 8 ∧
      if (match p with
          | .drv _ => s.cfg.drvCap
          | .app h => (s.appPkt h).capacity.toNat) < n.toNat then Aborted s t { s.rx with size := n }
      else t = { s with rx := { s.rx with
        size := n
        rem := n
        state := if n = 0 then .awaitEnd else .awaitDataEsc } })

/-- R226, R227, R229, R75: a payload byte is stored at the packet's length in its own buffer, and nowhere else; an
unescaped ESCAPE is not stored; every other byte is, markers included. -/
def Obligations.RxStoresPayloadBytes : Prop :=
  ∀ (s : State) (b : Byte) (p : PktId), s.Located → s.rx.pkt = some p →
    (s.rx.state = .awaitDataEsc → b = 0x9D →
      s.rxStep b = some { s with rx := { s.rx with state := .awaitData } }) ∧
    (s.rx.state = .awaitData ∨ s.rx.state = .awaitDataEsc ∧ b ≠ 0x9D →
      (∀ h, p = .app h →
        s.admits (((s.appPkt h).buffer.toNat + (s.appPkt h).length.toNat) % 2 ^ s.cfg.addrW) = true) →
      ∃ t, s.rxStep b = some t ∧
        t.rx = { s.rx with
          rem := s.rx.rem - 1
          state := if s.rx.rem - 1 = 0 then .awaitEnd else .awaitDataEsc } ∧
        t.flagsOf p = s.flagsOf p ∧ t.lengthOf p = s.lengthOf p + 1 ∧ t.freeq = s.freeq ∧ t.txq = s.txq ∧
        t.rxq = s.rxq ∧ t.tx = s.tx ∧ t.txie = s.txie ∧ t.link = s.link ∧ SameOutside s t ∧
        match p with
        | .drv i => t.mem = s.mem ∧ t.app = s.app ∧ OtherDrivers s t [i] ∧
            ∀ k, t.dbuf i k = if k = (s.drvPkt i).length.toNat then b else s.dbuf i k
        | .app h => t.drv = s.drv ∧ OtherApps s t h ∧ (t.appPkt h).capacity = (s.appPkt h).capacity ∧
            (t.appPkt h).buffer = (s.appPkt h).buffer ∧
            ∀ a, t.memByte a =
              if a = ((s.appPkt h).buffer.toNat + (s.appPkt h).length.toNat) % 2 ^ s.cfg.addrW then b
              else s.memByte a)

/-- R228, R231, R232: AWAIT_END: END completes the packet (DONE set and READY clear in its record and nothing else of it
changed, a driver packet at the tail of RXQ), any other byte aborts it. -/
def Obligations.RxEndCompletesOrAborts : Prop :=
  ∀ (s : State) (b : Byte) (p : PktId), s.Located → s.rx.state = .awaitEnd → s.rx.pkt = some p →
    ∃ t, s.rxStep b = some t ∧
      if b = 0xAE then
        t.rx = { s.rx with pkt := none, state := .awaitStart } ∧
        t.freeq = s.freeq ∧ t.txq = s.txq ∧ t.tx = s.tx ∧ t.txie = s.txie ∧ t.link = s.link ∧ t.mem = s.mem ∧
        SameOutside s t ∧ Completed s t p ∧ t.rxq = s.rxq ++ p.drvSlot.toList
      else Aborted s t s.rx

/-- R235: a packet is delivered only by RXE's step on an END byte in AWAIT_END, after exactly the declared number of
payload bytes. -/
def Obligations.NoPartialDelivery : Prop :=
  ∀ (s t : State), s.Inv → step s = .next t → s.nextDraw ≠ .reset →
    (∀ i, i ∈ t.rxq → i ∉ s.rxq →
      s.nextDraw = .rxe ∧ s.rx.state = .awaitEnd ∧ s.link.rxData = some 0xAE ∧ s.rx.pkt = some (.drv i) ∧
        (s.drvPkt i).length = s.rx.size) ∧
    (∀ h < s.nApp, (t.appPkt h).flags &&& 0x60 = 0x60 → (s.appPkt h).flags &&& 0x60 ≠ 0x60 →
      s.nextDraw = .rxe ∧ s.rx.state = .awaitEnd ∧ s.link.rxData = some 0xAE ∧ s.rx.pkt = some (.app h) ∧
        (s.appPkt h).length = s.rx.size)

/-- R237, the receiver's half, driver packets: the frame of any payload that fits is delivered whole. -/
def Obligations.ReceiverDeliversDriverFrames : Prop :=
  ∀ (r : State) (f : Byte) (d : List Byte) (i : Nat) (rest : List Nat),
    r.Inv → r.rx.state = .awaitStart → r.freeq = i :: rest → f.getLsbD 7 = false → d.length ≤ r.cfg.drvCap →
    ∃ t, r.rxBytes (frameOf f none d) = some t ∧ t.rx.state = .awaitStart ∧ t.rx.pkt = none ∧
      t.rxq = r.rxq ++ [i] ∧ t.freeq = rest ∧ (t.drvPkt i).flags = (f &&& 0x8F) ||| 0x60 ∧
      (t.drvPkt i).length.toNat = d.length ∧ (∀ k, (hk : k < d.length) → t.dbuf i k = d[k]) ∧
      OtherDrivers r t [i] ∧ t.app = r.app ∧ t.mem = r.mem ∧ t.tx = r.tx ∧ t.txq = r.txq

/-- R237, the receiver's half, application packets: the buffer must be admitted, and must not wrap onto itself. -/
def Obligations.ReceiverDeliversApplicationFrames : Prop :=
  ∀ (r : State) (f x : Byte) (d : List Byte),
    r.Inv → r.rx.state = .awaitStart → f.getLsbD 7 = true → x.toNat < r.nApp →
    (r.appPkt x.toNat).flags &&& 0x70 = 0x50 → d.length ≤ (r.appPkt x.toNat).capacity.toNat →
    d.length ≤ 2 ^ r.cfg.addrW →
    (∀ k < d.length, r.admits (((r.appPkt x.toNat).buffer.toNat + k) % 2 ^ r.cfg.addrW) = true) →
    ∃ t, r.rxBytes (frameOf f (some x) d) = some t ∧ t.rx.state = .awaitStart ∧ t.rx.pkt = none ∧
      (t.appPkt x.toNat).flags = (f &&& 0x8F) ||| 0x60 ∧ (t.appPkt x.toNat).length.toNat = d.length ∧
      (∀ k, (hk : k < d.length) →
        t.memByte (((r.appPkt x.toNat).buffer.toNat + k) % 2 ^ r.cfg.addrW) = d[k]) ∧
      (∀ a, (∀ k < d.length, a ≠ ((r.appPkt x.toNat).buffer.toNat + k) % 2 ^ r.cfg.addrW) →
        t.memByte a = r.memByte a) ∧
      OtherApps r t x.toNat ∧ t.drv = r.drv ∧ t.freeq = r.freeq ∧ t.rxq = r.rxq ∧ t.tx = r.tx ∧ t.txq = r.txq

/-- R237: the round-trip law for driver packets: what a sender emits for `p`, a peer receives as `p`'s payload and
flags, whatever the bytes. -/
def Obligations.DriverRoundTrip : Prop :=
  ∀ (s r : State) (i j : Nat) (q : List PktId) (rest : List Nat) (d : List Byte),
    s.Inv → s.tx.state = .idle → s.txq = .drv i :: q → s.Payload (.drv i) d →
    r.Inv → r.rx.state = .awaitStart → r.freeq = j :: rest → d.length ≤ r.cfg.drvCap →
    ∃ n s' r', s.txSlots n = some s' ∧ s'.tx.state = .idle ∧
      r.rxBytes (s'.link.wire.drop s.link.wire.length) = some r' ∧ r'.rx.state = .awaitStart ∧
      r'.rxq = r.rxq ++ [j] ∧ (r'.drvPkt j).flags = ((s.drvPkt i).flags &&& 0x8F) ||| 0x60 ∧
      (r'.drvPkt j).length = (s.drvPkt i).length ∧ r'.Payload (.drv j) d

/-! ### The builder's law -/

/-- R168: the fragmentation law, for `START_OUTGOING u`, one APPEND_BYTE for each byte, FLUSH, with enough free packets:
the bytes are queued in order as `k` fragments, all full but perhaps the last, FIRST on the first only, LAST on the last
only and only where it is not full. -/
def Obligations.BuilderFragmentsMessages : Prop :=
  ∀ (s : State) (u : Byte) (d : List Byte) (k : Nat),
    s.Inv → s.bld.pkt = none → d ≠ [] → k = (d.length + s.cfg.drvCap - 1) / s.cfg.drvCap → k ≤ s.freeq.length →
    ∃ t, runCommands (.startOutgoing u :: (d.map .appendByte ++ [.flush])) s = some t ∧
      t.txq = s.txq ++ (s.freeq.take k).map .drv ∧ t.freeq = s.freeq.drop k ∧
      t.bld = { pkt := none, carry := 0, cont := false } ∧
      (∀ j, (hj : j < k) → (hq : j < s.freeq.length) →
        (t.drvPkt s.freeq[j]).flags =
          (u &&& 0x03) ||| (if j = 0 then 0x04 else 0) |||
            (if j + 1 = k ∧ d.length % s.cfg.drvCap ≠ 0 then 0x08 else 0) ||| 0x10 ∧
        (t.drvPkt s.freeq[j]).length.toNat =
          (if j + 1 < k then s.cfg.drvCap else d.length - (k - 1) * s.cfg.drvCap) ∧
        ∀ x < (t.drvPkt s.freeq[j]).length.toNat, ∀ hx : j * s.cfg.drvCap + x < d.length,
          t.dbuf s.freeq[j] x = d[j * s.cfg.drvCap + x])

/-! ### Steps -/

/-- R43, R101: a step in which the foreground's CMD write, outstanding or just made, stands for the command `i` is `exec`
of `i`; what the step adds is that the draw is taken from the oracle, and the access from those to come. -/
def Obligations.StepRunsTheDecodedCommand : Prop :=
  ∀ (s : State) (w : Word) (i : Instr), s.nextDraw = .fg → decode w = .ok i →
    (s.fg.cmdPort = some w → step s = exec i s.afterDraw) ∧
    (∀ rest, s.fg.cmdPort = none → s.fg.ops = .regWrite s.cfg.regBase 4 w :: rest →
      step s = exec i { s.afterDraw with fg := { s.fg with cmdPort := some w, ops := rest } })

/-- R143: a step takes at most the head of each queue and appends at most one entry to each. -/
def Obligations.QueuesAreFifos : Prop :=
  ∀ (s t : State), step s = .next t → s.nextDraw ≠ .reset →
    (∃ n l, n ≤ 1 ∧ l.length ≤ 1 ∧ t.freeq = s.freeq.drop n ++ l) ∧
    (∃ n l, n ≤ 1 ∧ l.length ≤ 1 ∧ t.txq = s.txq.drop n ++ l) ∧
    (∃ n l, n ≤ 1 ∧ l.length ≤ 1 ∧ t.rxq = s.rxq.drop n ++ l)

/-- R72, R83: host memory at an address changes only by RXE's store of the presented byte at the next address of the
buffer of the application packet it is receiving, or by the foreground's own write there; and the address is admitted.
For RXE's store that is R74; for the foreground's write it is the model's choice (a write where the launch memory admits
none changes nothing: the spec is silent, log entry 22), and that an admitted address is never one of the block's window
is the model's reading of R77 (log entry 8). A foreground write at an admitted address outside the buffers of busy slots
stores the byte given, and a foreground read there shows what memory holds (R86, R84; inside them the byte is open, log
entry 10). -/
def Obligations.HostMemoryWriters : Prop :=
  (∀ (s : State) (a : Nat) (rest : List HostOp), s.nextDraw = .fg → s.fg.cmdPort = none → s.admits a = true →
    (∀ h ∈ s.appPlaces, h < s.nApp → ∀ k < (s.appPkt h).capacity.toNat,
      a ≠ ((s.appPkt h).buffer.toNat + k) % 2 ^ s.cfg.addrW) →
    (∀ b, s.fg.ops = .poke a b :: rest →
      ∃ t, step s = .next t ∧ t = { s.afterDraw with fg := { s.fg with ops := rest }, mem := t.mem } ∧
        ∀ c, t.memByte c = if c = a then b else s.memByte c) ∧
    (s.fg.ops = .peek a :: rest →
      step s = .next { s.afterDraw with
        fg := { s.fg with ops := rest, seen := s.fg.seen ++ [(0 : BitVec 24) ++ s.memByte a] } })) ∧
  ∀ (s t : State) (a : Nat), step s = .next t → t.mem.find a ≠ s.mem.find a →
    s.admits a = true ∧
    ((s.nextDraw = .rxe ∧ (s.rx.state = .awaitData ∨ s.rx.state = .awaitDataEsc) ∧
        ∃ h, s.rx.pkt = some (.app h) ∧
          a = ((s.appPkt h).buffer.toNat + (s.appPkt h).length.toNat) % 2 ^ s.cfg.addrW ∧
          t.mem.find a = s.link.rxData) ∨
      (s.nextDraw = .fg ∧ s.fg.cmdPort = none ∧ ∃ b rest, s.fg.ops = .poke a b :: rest))

/-- R71: a byte of a driver buffer changes only by an APPEND, the foreground's outstanding command or the one just
written, which stores its operand at the length of the fragment it fills, or by RXE's store of the presented byte at the
length of the driver packet it is receiving. -/
def Obligations.DriverBufferWriters : Prop :=
  ∀ (s t : State) (i k : Nat), s.Inv → step s = .next t → s.nextDraw ≠ .reset → t.dbuf i k ≠ s.dbuf i k →
    (s.nextDraw = .fg ∧
      (∃ w b, (s.fg.cmdPort = some w ∨
          s.fg.cmdPort = none ∧ ∃ rest, s.fg.ops = .regWrite s.cfg.regBase 4 w :: rest) ∧
        (decode w = .ok (.appendByte b) ∨ decode w = .ok (.appendInfer b)) ∧ t.dbuf i k = b) ∧
      (s.bld.pkt = some i ∧ k = (s.drvPkt i).length.toNat ∨ s.bld.pkt = none ∧ s.freeq.head? = some i ∧ k = 0)) ∨
    (s.nextDraw = .rxe ∧ s.rx.pkt = some (.drv i) ∧ k = (s.drvPkt i).length.toNat ∧ t.link.rxData = none ∧
      s.link.rxData = some (t.dbuf i k))

/-- R190, R328, R324: the transmit stream only grows, by one byte at a time, in a step of TXE with `tx_ready` and TXIE;
the byte fills the slot, so `tx_ready` is down after it (log entry 5). -/
def Obligations.WireGrowsByTxeOnly : Prop :=
  ∀ (s t : State), step s = .next t →
    t.link.wire = s.link.wire ∨
    (s.nextDraw = .txe ∧ s.link.txReady = true ∧ s.txie = true ∧ t.link.txReady = false ∧ ∃ b, t.link.wire = s.link.wire ++ [b])

/-- R358, R266: a busy handle stops being busy only by the END step of its transmission, or by the completion or abort
of its reception. -/
def Obligations.BusyEndsWithTheTransfer : Prop :=
  ∀ (s t : State) (h : Nat), s.Inv → step s = .next t → s.nextDraw ≠ .reset → h ∈ s.appPlaces → h ∉ t.appPlaces →
    (s.nextDraw = .txe ∧ s.tx.state = .sentAllData ∧ s.tx.pkt = some (.app h) ∧
      (t.appPkt h).flags &&& 0x70 = 0x20) ∨
    (s.nextDraw = .rxe ∧ s.rx.pkt = some (.app h) ∧ t.rx.state = .awaitStart ∧
      ((t.appPkt h).flags &&& 0x70 = 0x60 ∨ (t.appPkt h).flags = 0xD0))

/-! ### Reset, the end of a run, the deadlock -/

/-- R51, R350: the machine after reset, at the default parameters of R6. -/
def Obligations.ResetState : Prop :=
  State.reset.freeq = [0, 1, 2, 3] ∧ State.reset.txq = [] ∧ State.reset.rxq = [] ∧ State.reset.nDrv = 4 ∧
  State.reset.nApp = 16 ∧ (∀ i < 4, (State.reset.drvPkt i).flags = 0 ∧ (State.reset.drvPkt i).length = 0) ∧
  (∀ h < 16, State.reset.appPkt h =
    { flags := 0x80, capacity := 0, length := 0, buffer := 0, index := BitVec.ofNat 8 h }) ∧
  State.reset.tx = { state := .idle, pkt := none, pos := 0, lit := 0 } ∧
  State.reset.rx = { state := .awaitStart, pkt := none, flags := 0, size := 0, rem := 0 } ∧
  State.reset.bld = { pkt := none, carry := 0, cont := false } ∧ State.reset.txie = false ∧
  State.reset.active = false ∧
  State.reset.regs = { argLen := 0, argAddr := 0, result := 0, resultLen := 0 } ∧
  State.reset.statusWord = 0x00040000

/-- R350, R351: a reset puts the block at the values of R51 from any state, for any parameters. -/
def Obligations.PlatformResetRestoresTheBlock : Prop :=
  ∀ (s t : State), s.turn .reset = .next t →
    t.freeq = List.range s.nDrv ∧ t.nDrv = s.nDrv ∧ t.nApp = s.nApp ∧ t.txq = [] ∧ t.rxq = [] ∧
    (∀ i < s.nDrv, (t.drvPkt i).flags = 0 ∧ (t.drvPkt i).length = 0) ∧
    (∀ h < s.nApp, t.appPkt h =
      { flags := 0x80, capacity := 0, length := 0, buffer := 0, index := BitVec.ofNat 8 h }) ∧
    t.tx = { state := .idle, pkt := none, pos := 0, lit := 0 } ∧
    t.rx = { state := .awaitStart, pkt := none, flags := 0, size := 0, rem := 0 } ∧
    t.bld = { pkt := none, carry := 0, cont := false } ∧ t.txie = false ∧ t.active = false ∧
    t.regs = { argLen := 0, argAddr := 0, result := 0, resultLen := 0 } ∧ t.cfg = s.cfg

/-- R367: when a run has ended, a turn of the foreground, of RXE, of TXE or of LINK presenting its next byte changes
nothing. That an agent without a step is a turn that changes nothing is the model's reading (log entry 3); LINK's level
`tx_ready` may still move (log entry 5), and only it does then. -/
def Obligations.EndedRunsAreQuiet : Prop :=
  ∀ (s : State), s.runEnded →
    (∀ d, d = .fg ∨ d = .rxe ∨ d = .txe ∨ d = .linkByte → s.turn d = .next s) ∧
    ∀ r, s.turn (.linkReady r) = .next { s with link := { s.link with txReady := r } }

/-- R357: a hold that no driver packet on its way can lift never ends: no step but a reset changes it, and no result is
ever written. (The word held and the turn without a step are the model's form: log entries 3, 4.) -/
def Obligations.DeadlockIsForever : Prop :=
  ∀ (s t : State), s.deadlocked → s.nextDraw ≠ .reset → step s = .next t → t.deadlocked ∧ t.regs = s.regs

/-- R363: in a fair execution without a reset, whose host memory is admitted everywhere, every packet queued or being
sent gets its END byte and is done, and every byte that waits is consumed. -/
def Obligations.FairExecutionsMakeProgress : Prop :=
  ∀ (r : Nat → State) (d : Nat → Draw),
    Execution r d → Fair r d → (∀ n, d n ≠ .reset) → (r 0).Inv →
    (∀ a < 2 ^ (r 0).cfg.addrW, (r 0).admits a = true) →
    (∀ n p, p ∈ (r n).txq ∨ (r n).tx.pkt = some p → ∃ m ≥ n,
      (r m).tx.pkt = some p ∧ (r m).tx.state = .sentAllData ∧ (r (m + 1)).tx.state = .idle ∧
      (r (m + 1)).link.wire = (r m).link.wire ++ [0xAE] ∧ (r (m + 1)).flagsOf p &&& 0x30 = 0x20) ∧
    (∀ n b, (r n).link.rxData = some b → ∃ m ≥ n,
      d m = .rxe ∧ (r m).link.rxData = some b ∧ (r (m + 1)).link.rxData = none)

/-! ### Invariants -/

/-- The reset state satisfies the invariant, and so does the reset state of every legal launch (R6, R366). -/
def Obligations.LaunchSatisfiesTheInvariant : Prop :=
  State.reset.Inv ∧ ∀ (p : Params) (ram : List Region), p.Legal → (State.launch p ram).Inv

/-- R29: ownership bits never change, whoever steps. -/
def Obligations.StepKeepsOwnership : Prop := ∀ (s t : State), s.Inv → step s = .next t → t.Owned

/-- R39: every packet stays in one place. -/
def Obligations.StepKeepsLocation : Prop := ∀ (s t : State), s.Inv → step s = .next t → t.Located

/-- R203: the transmit invariants; and no agent but TXE writes the packet in flight. -/
def Obligations.StepKeepsTransmitInvariants : Prop :=
  ∀ (s t : State), s.Inv → step s = .next t → t.TxOk ∧
    (s.nextDraw ≠ .txe → s.nextDraw ≠ .reset →
      (∀ i, s.tx.pkt = some (.drv i) → t.drvPkt i = s.drvPkt i) ∧
      (∀ h, s.tx.pkt = some (.app h) → t.appPkt h = s.appPkt h))

/-- R229: the receive bounds, and lengths within capacities (R121). -/
def Obligations.StepKeepsReceiveBounds : Prop := ∀ (s t : State), s.Inv → step s = .next t → t.RxOk ∧ t.Bounded

/-- The whole invariant: every step keeps it. -/
def Obligations.StepKeepsTheInvariant : Prop := ∀ (s t : State), s.Inv → step s = .next t → t.Inv
end

