-- ==== Sys2Proof/Laws/State.lean ====
section
/-! SUPPORT. For every named update of the state, one lemma per field it leaves alone, and the value of the field it
writes: later proofs rewrite with these and do not unfold a record update. -/

namespace Sys2Proof.Machine

/-! ### setDrv -/

@[simp] theorem State.setDrv_cfg (s : State) (i : Nat) (p : DrvPkt) :
    (s.setDrv i p).cfg = s.cfg := rfl
@[simp] theorem State.setDrv_drv (s : State) (i : Nat) (p : DrvPkt) :
    (s.setDrv i p).drv = s.drv.set i p := rfl
@[simp] theorem State.setDrv_app (s : State) (i : Nat) (p : DrvPkt) :
    (s.setDrv i p).app = s.app := rfl
@[simp] theorem State.setDrv_freeq (s : State) (i : Nat) (p : DrvPkt) :
    (s.setDrv i p).freeq = s.freeq := rfl
@[simp] theorem State.setDrv_txq (s : State) (i : Nat) (p : DrvPkt) :
    (s.setDrv i p).txq = s.txq := rfl
@[simp] theorem State.setDrv_rxq (s : State) (i : Nat) (p : DrvPkt) :
    (s.setDrv i p).rxq = s.rxq := rfl
@[simp] theorem State.setDrv_bld (s : State) (i : Nat) (p : DrvPkt) :
    (s.setDrv i p).bld = s.bld := rfl
@[simp] theorem State.setDrv_tx (s : State) (i : Nat) (p : DrvPkt) :
    (s.setDrv i p).tx = s.tx := rfl
@[simp] theorem State.setDrv_txie (s : State) (i : Nat) (p : DrvPkt) :
    (s.setDrv i p).txie = s.txie := rfl
@[simp] theorem State.setDrv_rx (s : State) (i : Nat) (p : DrvPkt) :
    (s.setDrv i p).rx = s.rx := rfl
@[simp] theorem State.setDrv_active (s : State) (i : Nat) (p : DrvPkt) :
    (s.setDrv i p).active = s.active := rfl
@[simp] theorem State.setDrv_regs (s : State) (i : Nat) (p : DrvPkt) :
    (s.setDrv i p).regs = s.regs := rfl
@[simp] theorem State.setDrv_fg (s : State) (i : Nat) (p : DrvPkt) :
    (s.setDrv i p).fg = s.fg := rfl
@[simp] theorem State.setDrv_link (s : State) (i : Nat) (p : DrvPkt) :
    (s.setDrv i p).link = s.link := rfl
@[simp] theorem State.setDrv_mem (s : State) (i : Nat) (p : DrvPkt) :
    (s.setDrv i p).mem = s.mem := rfl
@[simp] theorem State.setDrv_oracle (s : State) (i : Nat) (p : DrvPkt) :
    (s.setDrv i p).oracle = s.oracle := rfl
@[simp] theorem State.setDrv_epoch (s : State) (i : Nat) (p : DrvPkt) :
    (s.setDrv i p).epoch = s.epoch := rfl

/-! ### setApp -/

@[simp] theorem State.setApp_cfg (s : State) (h : Nat) (p : AppPkt) :
    (s.setApp h p).cfg = s.cfg := rfl
@[simp] theorem State.setApp_drv (s : State) (h : Nat) (p : AppPkt) :
    (s.setApp h p).drv = s.drv := rfl
@[simp] theorem State.setApp_app (s : State) (h : Nat) (p : AppPkt) :
    (s.setApp h p).app = s.app.set h p := rfl
@[simp] theorem State.setApp_freeq (s : State) (h : Nat) (p : AppPkt) :
    (s.setApp h p).freeq = s.freeq := rfl
@[simp] theorem State.setApp_txq (s : State) (h : Nat) (p : AppPkt) :
    (s.setApp h p).txq = s.txq := rfl
@[simp] theorem State.setApp_rxq (s : State) (h : Nat) (p : AppPkt) :
    (s.setApp h p).rxq = s.rxq := rfl
@[simp] theorem State.setApp_bld (s : State) (h : Nat) (p : AppPkt) :
    (s.setApp h p).bld = s.bld := rfl
@[simp] theorem State.setApp_tx (s : State) (h : Nat) (p : AppPkt) :
    (s.setApp h p).tx = s.tx := rfl
@[simp] theorem State.setApp_txie (s : State) (h : Nat) (p : AppPkt) :
    (s.setApp h p).txie = s.txie := rfl
@[simp] theorem State.setApp_rx (s : State) (h : Nat) (p : AppPkt) :
    (s.setApp h p).rx = s.rx := rfl
@[simp] theorem State.setApp_active (s : State) (h : Nat) (p : AppPkt) :
    (s.setApp h p).active = s.active := rfl
@[simp] theorem State.setApp_regs (s : State) (h : Nat) (p : AppPkt) :
    (s.setApp h p).regs = s.regs := rfl
@[simp] theorem State.setApp_fg (s : State) (h : Nat) (p : AppPkt) :
    (s.setApp h p).fg = s.fg := rfl
@[simp] theorem State.setApp_link (s : State) (h : Nat) (p : AppPkt) :
    (s.setApp h p).link = s.link := rfl
@[simp] theorem State.setApp_mem (s : State) (h : Nat) (p : AppPkt) :
    (s.setApp h p).mem = s.mem := rfl
@[simp] theorem State.setApp_oracle (s : State) (h : Nat) (p : AppPkt) :
    (s.setApp h p).oracle = s.oracle := rfl
@[simp] theorem State.setApp_epoch (s : State) (h : Nat) (p : AppPkt) :
    (s.setApp h p).epoch = s.epoch := rfl

/-! ### setDbuf -/

@[simp] theorem State.setDbuf_cfg (s : State) (i k : Nat) (v : Byte) :
    (s.setDbuf i k v).cfg = s.cfg := rfl
@[simp] theorem State.setDbuf_drv (s : State) (i k : Nat) (v : Byte) :
    (s.setDbuf i k v).drv = s.drv.set i { s.drvPkt i with buf := (s.drvPkt i).buf.put k v } := rfl
@[simp] theorem State.setDbuf_app (s : State) (i k : Nat) (v : Byte) :
    (s.setDbuf i k v).app = s.app := rfl
@[simp] theorem State.setDbuf_freeq (s : State) (i k : Nat) (v : Byte) :
    (s.setDbuf i k v).freeq = s.freeq := rfl
@[simp] theorem State.setDbuf_txq (s : State) (i k : Nat) (v : Byte) :
    (s.setDbuf i k v).txq = s.txq := rfl
@[simp] theorem State.setDbuf_rxq (s : State) (i k : Nat) (v : Byte) :
    (s.setDbuf i k v).rxq = s.rxq := rfl
@[simp] theorem State.setDbuf_bld (s : State) (i k : Nat) (v : Byte) :
    (s.setDbuf i k v).bld = s.bld := rfl
@[simp] theorem State.setDbuf_tx (s : State) (i k : Nat) (v : Byte) :
    (s.setDbuf i k v).tx = s.tx := rfl
@[simp] theorem State.setDbuf_txie (s : State) (i k : Nat) (v : Byte) :
    (s.setDbuf i k v).txie = s.txie := rfl
@[simp] theorem State.setDbuf_rx (s : State) (i k : Nat) (v : Byte) :
    (s.setDbuf i k v).rx = s.rx := rfl
@[simp] theorem State.setDbuf_active (s : State) (i k : Nat) (v : Byte) :
    (s.setDbuf i k v).active = s.active := rfl
@[simp] theorem State.setDbuf_regs (s : State) (i k : Nat) (v : Byte) :
    (s.setDbuf i k v).regs = s.regs := rfl
@[simp] theorem State.setDbuf_fg (s : State) (i k : Nat) (v : Byte) :
    (s.setDbuf i k v).fg = s.fg := rfl
@[simp] theorem State.setDbuf_link (s : State) (i k : Nat) (v : Byte) :
    (s.setDbuf i k v).link = s.link := rfl
@[simp] theorem State.setDbuf_mem (s : State) (i k : Nat) (v : Byte) :
    (s.setDbuf i k v).mem = s.mem := rfl
@[simp] theorem State.setDbuf_oracle (s : State) (i k : Nat) (v : Byte) :
    (s.setDbuf i k v).oracle = s.oracle := rfl
@[simp] theorem State.setDbuf_epoch (s : State) (i k : Nat) (v : Byte) :
    (s.setDbuf i k v).epoch = s.epoch := rfl

/-! ### enqueueFree -/

@[simp] theorem State.enqueueFree_cfg (s : State) (i : Nat) :
    (s.enqueueFree i).cfg = s.cfg := rfl
@[simp] theorem State.enqueueFree_drv (s : State) (i : Nat) :
    (s.enqueueFree i).drv = s.drv := rfl
@[simp] theorem State.enqueueFree_app (s : State) (i : Nat) :
    (s.enqueueFree i).app = s.app := rfl
@[simp] theorem State.enqueueFree_freeq (s : State) (i : Nat) :
    (s.enqueueFree i).freeq = s.freeq ++ [i] := rfl
@[simp] theorem State.enqueueFree_txq (s : State) (i : Nat) :
    (s.enqueueFree i).txq = s.txq := rfl
@[simp] theorem State.enqueueFree_rxq (s : State) (i : Nat) :
    (s.enqueueFree i).rxq = s.rxq := rfl
@[simp] theorem State.enqueueFree_bld (s : State) (i : Nat) :
    (s.enqueueFree i).bld = s.bld := rfl
@[simp] theorem State.enqueueFree_tx (s : State) (i : Nat) :
    (s.enqueueFree i).tx = s.tx := rfl
@[simp] theorem State.enqueueFree_txie (s : State) (i : Nat) :
    (s.enqueueFree i).txie = s.txie := rfl
@[simp] theorem State.enqueueFree_rx (s : State) (i : Nat) :
    (s.enqueueFree i).rx = s.rx := rfl
@[simp] theorem State.enqueueFree_active (s : State) (i : Nat) :
    (s.enqueueFree i).active = s.active := rfl
@[simp] theorem State.enqueueFree_regs (s : State) (i : Nat) :
    (s.enqueueFree i).regs = s.regs := rfl
@[simp] theorem State.enqueueFree_fg (s : State) (i : Nat) :
    (s.enqueueFree i).fg = s.fg := rfl
@[simp] theorem State.enqueueFree_link (s : State) (i : Nat) :
    (s.enqueueFree i).link = s.link := rfl
@[simp] theorem State.enqueueFree_mem (s : State) (i : Nat) :
    (s.enqueueFree i).mem = s.mem := rfl
@[simp] theorem State.enqueueFree_oracle (s : State) (i : Nat) :
    (s.enqueueFree i).oracle = s.oracle := rfl
@[simp] theorem State.enqueueFree_epoch (s : State) (i : Nat) :
    (s.enqueueFree i).epoch = s.epoch := rfl

/-! ### enqueueTx -/

@[simp] theorem State.enqueueTx_cfg (s : State) (p : PktId) :
    (s.enqueueTx p).cfg = s.cfg := rfl
@[simp] theorem State.enqueueTx_drv (s : State) (p : PktId) :
    (s.enqueueTx p).drv = s.drv := rfl
@[simp] theorem State.enqueueTx_app (s : State) (p : PktId) :
    (s.enqueueTx p).app = s.app := rfl
@[simp] theorem State.enqueueTx_freeq (s : State) (p : PktId) :
    (s.enqueueTx p).freeq = s.freeq := rfl
@[simp] theorem State.enqueueTx_txq (s : State) (p : PktId) :
    (s.enqueueTx p).txq = s.txq ++ [p] := rfl
@[simp] theorem State.enqueueTx_rxq (s : State) (p : PktId) :
    (s.enqueueTx p).rxq = s.rxq := rfl
@[simp] theorem State.enqueueTx_bld (s : State) (p : PktId) :
    (s.enqueueTx p).bld = s.bld := rfl
@[simp] theorem State.enqueueTx_tx (s : State) (p : PktId) :
    (s.enqueueTx p).tx = s.tx := rfl
@[simp] theorem State.enqueueTx_txie (s : State) (p : PktId) :
    (s.enqueueTx p).txie = true := rfl
@[simp] theorem State.enqueueTx_rx (s : State) (p : PktId) :
    (s.enqueueTx p).rx = s.rx := rfl
@[simp] theorem State.enqueueTx_active (s : State) (p : PktId) :
    (s.enqueueTx p).active = s.active := rfl
@[simp] theorem State.enqueueTx_regs (s : State) (p : PktId) :
    (s.enqueueTx p).regs = s.regs := rfl
@[simp] theorem State.enqueueTx_fg (s : State) (p : PktId) :
    (s.enqueueTx p).fg = s.fg := rfl
@[simp] theorem State.enqueueTx_link (s : State) (p : PktId) :
    (s.enqueueTx p).link = s.link := rfl
@[simp] theorem State.enqueueTx_mem (s : State) (p : PktId) :
    (s.enqueueTx p).mem = s.mem := rfl
@[simp] theorem State.enqueueTx_oracle (s : State) (p : PktId) :
    (s.enqueueTx p).oracle = s.oracle := rfl
@[simp] theorem State.enqueueTx_epoch (s : State) (p : PktId) :
    (s.enqueueTx p).epoch = s.epoch := rfl

/-! ### enqueueRx -/

@[simp] theorem State.enqueueRx_cfg (s : State) (i : Nat) :
    (s.enqueueRx i).cfg = s.cfg := rfl
@[simp] theorem State.enqueueRx_drv (s : State) (i : Nat) :
    (s.enqueueRx i).drv = s.drv := rfl
@[simp] theorem State.enqueueRx_app (s : State) (i : Nat) :
    (s.enqueueRx i).app = s.app := rfl
@[simp] theorem State.enqueueRx_freeq (s : State) (i : Nat) :
    (s.enqueueRx i).freeq = s.freeq := rfl
@[simp] theorem State.enqueueRx_txq (s : State) (i : Nat) :
    (s.enqueueRx i).txq = s.txq := rfl
@[simp] theorem State.enqueueRx_rxq (s : State) (i : Nat) :
    (s.enqueueRx i).rxq = s.rxq ++ [i] := rfl
@[simp] theorem State.enqueueRx_bld (s : State) (i : Nat) :
    (s.enqueueRx i).bld = s.bld := rfl
@[simp] theorem State.enqueueRx_tx (s : State) (i : Nat) :
    (s.enqueueRx i).tx = s.tx := rfl
@[simp] theorem State.enqueueRx_txie (s : State) (i : Nat) :
    (s.enqueueRx i).txie = s.txie := rfl
@[simp] theorem State.enqueueRx_rx (s : State) (i : Nat) :
    (s.enqueueRx i).rx = s.rx := rfl
@[simp] theorem State.enqueueRx_active (s : State) (i : Nat) :
    (s.enqueueRx i).active = s.active := rfl
@[simp] theorem State.enqueueRx_regs (s : State) (i : Nat) :
    (s.enqueueRx i).regs = s.regs := rfl
@[simp] theorem State.enqueueRx_fg (s : State) (i : Nat) :
    (s.enqueueRx i).fg = s.fg := rfl
@[simp] theorem State.enqueueRx_link (s : State) (i : Nat) :
    (s.enqueueRx i).link = s.link := rfl
@[simp] theorem State.enqueueRx_mem (s : State) (i : Nat) :
    (s.enqueueRx i).mem = s.mem := rfl
@[simp] theorem State.enqueueRx_oracle (s : State) (i : Nat) :
    (s.enqueueRx i).oracle = s.oracle := rfl
@[simp] theorem State.enqueueRx_epoch (s : State) (i : Nat) :
    (s.enqueueRx i).epoch = s.epoch := rfl

/-! ### putResult -/

@[simp] theorem State.putResult_cfg (s : State) (st : Status) (val fl : Byte) (len : Half) :
    (s.putResult st val fl len).cfg = s.cfg := rfl
@[simp] theorem State.putResult_drv (s : State) (st : Status) (val fl : Byte) (len : Half) :
    (s.putResult st val fl len).drv = s.drv := rfl
@[simp] theorem State.putResult_app (s : State) (st : Status) (val fl : Byte) (len : Half) :
    (s.putResult st val fl len).app = s.app := rfl
@[simp] theorem State.putResult_freeq (s : State) (st : Status) (val fl : Byte) (len : Half) :
    (s.putResult st val fl len).freeq = s.freeq := rfl
@[simp] theorem State.putResult_txq (s : State) (st : Status) (val fl : Byte) (len : Half) :
    (s.putResult st val fl len).txq = s.txq := rfl
@[simp] theorem State.putResult_rxq (s : State) (st : Status) (val fl : Byte) (len : Half) :
    (s.putResult st val fl len).rxq = s.rxq := rfl
@[simp] theorem State.putResult_bld (s : State) (st : Status) (val fl : Byte) (len : Half) :
    (s.putResult st val fl len).bld = s.bld := rfl
@[simp] theorem State.putResult_tx (s : State) (st : Status) (val fl : Byte) (len : Half) :
    (s.putResult st val fl len).tx = s.tx := rfl
@[simp] theorem State.putResult_txie (s : State) (st : Status) (val fl : Byte) (len : Half) :
    (s.putResult st val fl len).txie = s.txie := rfl
@[simp] theorem State.putResult_rx (s : State) (st : Status) (val fl : Byte) (len : Half) :
    (s.putResult st val fl len).rx = s.rx := rfl
@[simp] theorem State.putResult_active (s : State) (st : Status) (val fl : Byte) (len : Half) :
    (s.putResult st val fl len).active = s.active := rfl
@[simp] theorem State.putResult_regs (s : State) (st : Status) (val fl : Byte) (len : Half) :
    (s.putResult st val fl len).regs = { s.regs with result := resultWord st val fl, resultLen := len } := rfl
@[simp] theorem State.putResult_fg (s : State) (st : Status) (val fl : Byte) (len : Half) :
    (s.putResult st val fl len).fg = { s.fg with cmdPort := none } := rfl
@[simp] theorem State.putResult_link (s : State) (st : Status) (val fl : Byte) (len : Half) :
    (s.putResult st val fl len).link = s.link := rfl
@[simp] theorem State.putResult_mem (s : State) (st : Status) (val fl : Byte) (len : Half) :
    (s.putResult st val fl len).mem = s.mem := rfl
@[simp] theorem State.putResult_oracle (s : State) (st : Status) (val fl : Byte) (len : Half) :
    (s.putResult st val fl len).oracle = s.oracle := rfl
@[simp] theorem State.putResult_epoch (s : State) (st : Status) (val fl : Byte) (len : Half) :
    (s.putResult st val fl len).epoch = s.epoch := rfl

/-! ### emit -/

@[simp] theorem State.emit_cfg (s : State) (b : Byte) :
    (s.emit b).cfg = s.cfg := rfl
@[simp] theorem State.emit_drv (s : State) (b : Byte) :
    (s.emit b).drv = s.drv := rfl
@[simp] theorem State.emit_app (s : State) (b : Byte) :
    (s.emit b).app = s.app := rfl
@[simp] theorem State.emit_freeq (s : State) (b : Byte) :
    (s.emit b).freeq = s.freeq := rfl
@[simp] theorem State.emit_txq (s : State) (b : Byte) :
    (s.emit b).txq = s.txq := rfl
@[simp] theorem State.emit_rxq (s : State) (b : Byte) :
    (s.emit b).rxq = s.rxq := rfl
@[simp] theorem State.emit_bld (s : State) (b : Byte) :
    (s.emit b).bld = s.bld := rfl
@[simp] theorem State.emit_tx (s : State) (b : Byte) :
    (s.emit b).tx = s.tx := rfl
@[simp] theorem State.emit_txie (s : State) (b : Byte) :
    (s.emit b).txie = s.txie := rfl
@[simp] theorem State.emit_rx (s : State) (b : Byte) :
    (s.emit b).rx = s.rx := rfl
@[simp] theorem State.emit_active (s : State) (b : Byte) :
    (s.emit b).active = s.active := rfl
@[simp] theorem State.emit_regs (s : State) (b : Byte) :
    (s.emit b).regs = s.regs := rfl
@[simp] theorem State.emit_fg (s : State) (b : Byte) :
    (s.emit b).fg = s.fg := rfl
@[simp] theorem State.emit_link (s : State) (b : Byte) :
    (s.emit b).link = { s.link with wire := s.link.wire ++ [b], txReady := false } := rfl
@[simp] theorem State.emit_mem (s : State) (b : Byte) :
    (s.emit b).mem = s.mem := rfl
@[simp] theorem State.emit_oracle (s : State) (b : Byte) :
    (s.emit b).oracle = s.oracle := rfl
@[simp] theorem State.emit_epoch (s : State) (b : Byte) :
    (s.emit b).epoch = s.epoch := rfl

/-! ### setTxState -/

@[simp] theorem State.setTxState_cfg (s : State) (st : TxState) :
    (s.setTxState st).cfg = s.cfg := rfl
@[simp] theorem State.setTxState_drv (s : State) (st : TxState) :
    (s.setTxState st).drv = s.drv := rfl
@[simp] theorem State.setTxState_app (s : State) (st : TxState) :
    (s.setTxState st).app = s.app := rfl
@[simp] theorem State.setTxState_freeq (s : State) (st : TxState) :
    (s.setTxState st).freeq = s.freeq := rfl
@[simp] theorem State.setTxState_txq (s : State) (st : TxState) :
    (s.setTxState st).txq = s.txq := rfl
@[simp] theorem State.setTxState_rxq (s : State) (st : TxState) :
    (s.setTxState st).rxq = s.rxq := rfl
@[simp] theorem State.setTxState_bld (s : State) (st : TxState) :
    (s.setTxState st).bld = s.bld := rfl
@[simp] theorem State.setTxState_tx (s : State) (st : TxState) :
    (s.setTxState st).tx = { s.tx with state := st } := rfl
@[simp] theorem State.setTxState_txie (s : State) (st : TxState) :
    (s.setTxState st).txie = s.txie := rfl
@[simp] theorem State.setTxState_rx (s : State) (st : TxState) :
    (s.setTxState st).rx = s.rx := rfl
@[simp] theorem State.setTxState_active (s : State) (st : TxState) :
    (s.setTxState st).active = s.active := rfl
@[simp] theorem State.setTxState_regs (s : State) (st : TxState) :
    (s.setTxState st).regs = s.regs := rfl
@[simp] theorem State.setTxState_fg (s : State) (st : TxState) :
    (s.setTxState st).fg = s.fg := rfl
@[simp] theorem State.setTxState_link (s : State) (st : TxState) :
    (s.setTxState st).link = s.link := rfl
@[simp] theorem State.setTxState_mem (s : State) (st : TxState) :
    (s.setTxState st).mem = s.mem := rfl
@[simp] theorem State.setTxState_oracle (s : State) (st : TxState) :
    (s.setTxState st).oracle = s.oracle := rfl
@[simp] theorem State.setTxState_epoch (s : State) (st : TxState) :
    (s.setTxState st).epoch = s.epoch := rfl

/-! ### setRxState -/

@[simp] theorem State.setRxState_cfg (s : State) (st : RxState) :
    (s.setRxState st).cfg = s.cfg := rfl
@[simp] theorem State.setRxState_drv (s : State) (st : RxState) :
    (s.setRxState st).drv = s.drv := rfl
@[simp] theorem State.setRxState_app (s : State) (st : RxState) :
    (s.setRxState st).app = s.app := rfl
@[simp] theorem State.setRxState_freeq (s : State) (st : RxState) :
    (s.setRxState st).freeq = s.freeq := rfl
@[simp] theorem State.setRxState_txq (s : State) (st : RxState) :
    (s.setRxState st).txq = s.txq := rfl
@[simp] theorem State.setRxState_rxq (s : State) (st : RxState) :
    (s.setRxState st).rxq = s.rxq := rfl
@[simp] theorem State.setRxState_bld (s : State) (st : RxState) :
    (s.setRxState st).bld = s.bld := rfl
@[simp] theorem State.setRxState_tx (s : State) (st : RxState) :
    (s.setRxState st).tx = s.tx := rfl
@[simp] theorem State.setRxState_txie (s : State) (st : RxState) :
    (s.setRxState st).txie = s.txie := rfl
@[simp] theorem State.setRxState_rx (s : State) (st : RxState) :
    (s.setRxState st).rx = { s.rx with state := st } := rfl
@[simp] theorem State.setRxState_active (s : State) (st : RxState) :
    (s.setRxState st).active = s.active := rfl
@[simp] theorem State.setRxState_regs (s : State) (st : RxState) :
    (s.setRxState st).regs = s.regs := rfl
@[simp] theorem State.setRxState_fg (s : State) (st : RxState) :
    (s.setRxState st).fg = s.fg := rfl
@[simp] theorem State.setRxState_link (s : State) (st : RxState) :
    (s.setRxState st).link = s.link := rfl
@[simp] theorem State.setRxState_mem (s : State) (st : RxState) :
    (s.setRxState st).mem = s.mem := rfl
@[simp] theorem State.setRxState_oracle (s : State) (st : RxState) :
    (s.setRxState st).oracle = s.oracle := rfl
@[simp] theorem State.setRxState_epoch (s : State) (st : RxState) :
    (s.setRxState st).epoch = s.epoch := rfl

/-! ### txAdvance -/

@[simp] theorem State.txAdvance_cfg (s : State) (p : PktId) :
    (s.txAdvance p).cfg = s.cfg := rfl
@[simp] theorem State.txAdvance_drv (s : State) (p : PktId) :
    (s.txAdvance p).drv = s.drv := rfl
@[simp] theorem State.txAdvance_app (s : State) (p : PktId) :
    (s.txAdvance p).app = s.app := rfl
@[simp] theorem State.txAdvance_freeq (s : State) (p : PktId) :
    (s.txAdvance p).freeq = s.freeq := rfl
@[simp] theorem State.txAdvance_txq (s : State) (p : PktId) :
    (s.txAdvance p).txq = s.txq := rfl
@[simp] theorem State.txAdvance_rxq (s : State) (p : PktId) :
    (s.txAdvance p).rxq = s.rxq := rfl
@[simp] theorem State.txAdvance_bld (s : State) (p : PktId) :
    (s.txAdvance p).bld = s.bld := rfl
@[simp] theorem State.txAdvance_tx (s : State) (p : PktId) :
    (s.txAdvance p).tx = { s.tx with pos := s.tx.pos + 1, state := s.afterData p (s.tx.pos + 1) } := rfl
@[simp] theorem State.txAdvance_txie (s : State) (p : PktId) :
    (s.txAdvance p).txie = s.txie := rfl
@[simp] theorem State.txAdvance_rx (s : State) (p : PktId) :
    (s.txAdvance p).rx = s.rx := rfl
@[simp] theorem State.txAdvance_active (s : State) (p : PktId) :
    (s.txAdvance p).active = s.active := rfl
@[simp] theorem State.txAdvance_regs (s : State) (p : PktId) :
    (s.txAdvance p).regs = s.regs := rfl
@[simp] theorem State.txAdvance_fg (s : State) (p : PktId) :
    (s.txAdvance p).fg = s.fg := rfl
@[simp] theorem State.txAdvance_link (s : State) (p : PktId) :
    (s.txAdvance p).link = s.link := rfl
@[simp] theorem State.txAdvance_mem (s : State) (p : PktId) :
    (s.txAdvance p).mem = s.mem := rfl
@[simp] theorem State.txAdvance_oracle (s : State) (p : PktId) :
    (s.txAdvance p).oracle = s.oracle := rfl
@[simp] theorem State.txAdvance_epoch (s : State) (p : PktId) :
    (s.txAdvance p).epoch = s.epoch := rfl

/-! ### drawn -/

@[simp] theorem State.drawn_cfg (s : State) :
    s.drawn.cfg = s.cfg := rfl
@[simp] theorem State.drawn_drv (s : State) :
    s.drawn.drv = s.drv := rfl
@[simp] theorem State.drawn_app (s : State) :
    s.drawn.app = s.app := rfl
@[simp] theorem State.drawn_freeq (s : State) :
    s.drawn.freeq = s.freeq := rfl
@[simp] theorem State.drawn_txq (s : State) :
    s.drawn.txq = s.txq := rfl
@[simp] theorem State.drawn_rxq (s : State) :
    s.drawn.rxq = s.rxq := rfl
@[simp] theorem State.drawn_bld (s : State) :
    s.drawn.bld = s.bld := rfl
@[simp] theorem State.drawn_tx (s : State) :
    s.drawn.tx = s.tx := rfl
@[simp] theorem State.drawn_txie (s : State) :
    s.drawn.txie = s.txie := rfl
@[simp] theorem State.drawn_rx (s : State) :
    s.drawn.rx = s.rx := rfl
@[simp] theorem State.drawn_active (s : State) :
    s.drawn.active = s.active := rfl
@[simp] theorem State.drawn_regs (s : State) :
    s.drawn.regs = s.regs := rfl
@[simp] theorem State.drawn_fg (s : State) :
    s.drawn.fg = s.fg := rfl
@[simp] theorem State.drawn_link (s : State) :
    s.drawn.link = s.link := rfl
@[simp] theorem State.drawn_mem (s : State) :
    s.drawn.mem = s.mem := rfl
@[simp] theorem State.drawn_oracle (s : State) :
    s.drawn.oracle = { s.oracle with draws := s.oracle.draws + 1 } := rfl
@[simp] theorem State.drawn_epoch (s : State) :
    s.drawn.epoch = s.epoch := rfl

/-! ### afterDraw -/

@[simp] theorem State.afterDraw_cfg (s : State) :
    s.afterDraw.cfg = s.cfg := by
  unfold State.afterDraw; split <;> rfl
@[simp] theorem State.afterDraw_drv (s : State) :
    s.afterDraw.drv = s.drv := by
  unfold State.afterDraw; split <;> rfl
@[simp] theorem State.afterDraw_app (s : State) :
    s.afterDraw.app = s.app := by
  unfold State.afterDraw; split <;> rfl
@[simp] theorem State.afterDraw_freeq (s : State) :
    s.afterDraw.freeq = s.freeq := by
  unfold State.afterDraw; split <;> rfl
@[simp] theorem State.afterDraw_txq (s : State) :
    s.afterDraw.txq = s.txq := by
  unfold State.afterDraw; split <;> rfl
@[simp] theorem State.afterDraw_rxq (s : State) :
    s.afterDraw.rxq = s.rxq := by
  unfold State.afterDraw; split <;> rfl
@[simp] theorem State.afterDraw_bld (s : State) :
    s.afterDraw.bld = s.bld := by
  unfold State.afterDraw; split <;> rfl
@[simp] theorem State.afterDraw_tx (s : State) :
    s.afterDraw.tx = s.tx := by
  unfold State.afterDraw; split <;> rfl
@[simp] theorem State.afterDraw_txie (s : State) :
    s.afterDraw.txie = s.txie := by
  unfold State.afterDraw; split <;> rfl
@[simp] theorem State.afterDraw_rx (s : State) :
    s.afterDraw.rx = s.rx := by
  unfold State.afterDraw; split <;> rfl
@[simp] theorem State.afterDraw_active (s : State) :
    s.afterDraw.active = s.active := by
  unfold State.afterDraw; split <;> rfl
@[simp] theorem State.afterDraw_regs (s : State) :
    s.afterDraw.regs = s.regs := by
  unfold State.afterDraw; split <;> rfl
@[simp] theorem State.afterDraw_fg (s : State) :
    s.afterDraw.fg = s.fg := by
  unfold State.afterDraw; split <;> rfl
@[simp] theorem State.afterDraw_link (s : State) :
    s.afterDraw.link = s.link := by
  unfold State.afterDraw; split <;> rfl
@[simp] theorem State.afterDraw_mem (s : State) :
    s.afterDraw.mem = s.mem := by
  unfold State.afterDraw; split <;> rfl
@[simp] theorem State.afterDraw_epoch (s : State) :
    s.afterDraw.epoch = s.epoch := by
  unfold State.afterDraw; split <;> rfl

/-! ### sees -/

@[simp] theorem State.sees_cfg (s : State) (v : Word) :
    (s.sees v).cfg = s.cfg := rfl
@[simp] theorem State.sees_drv (s : State) (v : Word) :
    (s.sees v).drv = s.drv := rfl
@[simp] theorem State.sees_app (s : State) (v : Word) :
    (s.sees v).app = s.app := rfl
@[simp] theorem State.sees_freeq (s : State) (v : Word) :
    (s.sees v).freeq = s.freeq := rfl
@[simp] theorem State.sees_txq (s : State) (v : Word) :
    (s.sees v).txq = s.txq := rfl
@[simp] theorem State.sees_rxq (s : State) (v : Word) :
    (s.sees v).rxq = s.rxq := rfl
@[simp] theorem State.sees_bld (s : State) (v : Word) :
    (s.sees v).bld = s.bld := rfl
@[simp] theorem State.sees_tx (s : State) (v : Word) :
    (s.sees v).tx = s.tx := rfl
@[simp] theorem State.sees_txie (s : State) (v : Word) :
    (s.sees v).txie = s.txie := rfl
@[simp] theorem State.sees_rx (s : State) (v : Word) :
    (s.sees v).rx = s.rx := rfl
@[simp] theorem State.sees_active (s : State) (v : Word) :
    (s.sees v).active = s.active := rfl
@[simp] theorem State.sees_regs (s : State) (v : Word) :
    (s.sees v).regs = s.regs := rfl
@[simp] theorem State.sees_fg (s : State) (v : Word) :
    (s.sees v).fg = { s.fg with seen := s.fg.seen ++ [v] } := rfl
@[simp] theorem State.sees_link (s : State) (v : Word) :
    (s.sees v).link = s.link := rfl
@[simp] theorem State.sees_mem (s : State) (v : Word) :
    (s.sees v).mem = s.mem := rfl
@[simp] theorem State.sees_oracle (s : State) (v : Word) :
    (s.sees v).oracle = s.oracle := rfl
@[simp] theorem State.sees_epoch (s : State) (v : Word) :
    (s.sees v).epoch = s.epoch := rfl

/-! ### pushOp -/

@[simp] theorem State.pushOp_cfg (s : State) (op : HostOp) :
    (s.pushOp op).cfg = s.cfg := rfl
@[simp] theorem State.pushOp_drv (s : State) (op : HostOp) :
    (s.pushOp op).drv = s.drv := rfl
@[simp] theorem State.pushOp_app (s : State) (op : HostOp) :
    (s.pushOp op).app = s.app := rfl
@[simp] theorem State.pushOp_freeq (s : State) (op : HostOp) :
    (s.pushOp op).freeq = s.freeq := rfl
@[simp] theorem State.pushOp_txq (s : State) (op : HostOp) :
    (s.pushOp op).txq = s.txq := rfl
@[simp] theorem State.pushOp_rxq (s : State) (op : HostOp) :
    (s.pushOp op).rxq = s.rxq := rfl
@[simp] theorem State.pushOp_bld (s : State) (op : HostOp) :
    (s.pushOp op).bld = s.bld := rfl
@[simp] theorem State.pushOp_tx (s : State) (op : HostOp) :
    (s.pushOp op).tx = s.tx := rfl
@[simp] theorem State.pushOp_txie (s : State) (op : HostOp) :
    (s.pushOp op).txie = s.txie := rfl
@[simp] theorem State.pushOp_rx (s : State) (op : HostOp) :
    (s.pushOp op).rx = s.rx := rfl
@[simp] theorem State.pushOp_active (s : State) (op : HostOp) :
    (s.pushOp op).active = s.active := rfl
@[simp] theorem State.pushOp_regs (s : State) (op : HostOp) :
    (s.pushOp op).regs = s.regs := rfl
@[simp] theorem State.pushOp_fg (s : State) (op : HostOp) :
    (s.pushOp op).fg = { s.fg with ops := op :: s.fg.ops } := rfl
@[simp] theorem State.pushOp_link (s : State) (op : HostOp) :
    (s.pushOp op).link = s.link := rfl
@[simp] theorem State.pushOp_mem (s : State) (op : HostOp) :
    (s.pushOp op).mem = s.mem := rfl
@[simp] theorem State.pushOp_oracle (s : State) (op : HostOp) :
    (s.pushOp op).oracle = s.oracle := rfl
@[simp] theorem State.pushOp_epoch (s : State) (op : HostOp) :
    (s.pushOp op).epoch = s.epoch := rfl

/-! ### takeByte -/

@[simp] theorem State.takeByte_cfg (s : State) :
    s.takeByte.cfg = s.cfg := rfl
@[simp] theorem State.takeByte_drv (s : State) :
    s.takeByte.drv = s.drv := rfl
@[simp] theorem State.takeByte_app (s : State) :
    s.takeByte.app = s.app := rfl
@[simp] theorem State.takeByte_freeq (s : State) :
    s.takeByte.freeq = s.freeq := rfl
@[simp] theorem State.takeByte_txq (s : State) :
    s.takeByte.txq = s.txq := rfl
@[simp] theorem State.takeByte_rxq (s : State) :
    s.takeByte.rxq = s.rxq := rfl
@[simp] theorem State.takeByte_bld (s : State) :
    s.takeByte.bld = s.bld := rfl
@[simp] theorem State.takeByte_tx (s : State) :
    s.takeByte.tx = s.tx := rfl
@[simp] theorem State.takeByte_txie (s : State) :
    s.takeByte.txie = s.txie := rfl
@[simp] theorem State.takeByte_rx (s : State) :
    s.takeByte.rx = s.rx := rfl
@[simp] theorem State.takeByte_active (s : State) :
    s.takeByte.active = s.active := rfl
@[simp] theorem State.takeByte_regs (s : State) :
    s.takeByte.regs = s.regs := rfl
@[simp] theorem State.takeByte_fg (s : State) :
    s.takeByte.fg = s.fg := rfl
@[simp] theorem State.takeByte_link (s : State) :
    s.takeByte.link = { s.link with rxData := none } := rfl
@[simp] theorem State.takeByte_mem (s : State) :
    s.takeByte.mem = s.mem := rfl
@[simp] theorem State.takeByte_oracle (s : State) :
    s.takeByte.oracle = s.oracle := rfl
@[simp] theorem State.takeByte_epoch (s : State) :
    s.takeByte.epoch = s.epoch := rfl

/-! ### linkReady -/

@[simp] theorem State.linkReady_cfg (s : State) (r : Bool) :
    (s.linkReady r).cfg = s.cfg := rfl
@[simp] theorem State.linkReady_drv (s : State) (r : Bool) :
    (s.linkReady r).drv = s.drv := rfl
@[simp] theorem State.linkReady_app (s : State) (r : Bool) :
    (s.linkReady r).app = s.app := rfl
@[simp] theorem State.linkReady_freeq (s : State) (r : Bool) :
    (s.linkReady r).freeq = s.freeq := rfl
@[simp] theorem State.linkReady_txq (s : State) (r : Bool) :
    (s.linkReady r).txq = s.txq := rfl
@[simp] theorem State.linkReady_rxq (s : State) (r : Bool) :
    (s.linkReady r).rxq = s.rxq := rfl
@[simp] theorem State.linkReady_bld (s : State) (r : Bool) :
    (s.linkReady r).bld = s.bld := rfl
@[simp] theorem State.linkReady_tx (s : State) (r : Bool) :
    (s.linkReady r).tx = s.tx := rfl
@[simp] theorem State.linkReady_txie (s : State) (r : Bool) :
    (s.linkReady r).txie = s.txie := rfl
@[simp] theorem State.linkReady_rx (s : State) (r : Bool) :
    (s.linkReady r).rx = s.rx := rfl
@[simp] theorem State.linkReady_active (s : State) (r : Bool) :
    (s.linkReady r).active = s.active := rfl
@[simp] theorem State.linkReady_regs (s : State) (r : Bool) :
    (s.linkReady r).regs = s.regs := rfl
@[simp] theorem State.linkReady_fg (s : State) (r : Bool) :
    (s.linkReady r).fg = s.fg := rfl
@[simp] theorem State.linkReady_link (s : State) (r : Bool) :
    (s.linkReady r).link = { s.link with txReady := r } := rfl
@[simp] theorem State.linkReady_mem (s : State) (r : Bool) :
    (s.linkReady r).mem = s.mem := rfl
@[simp] theorem State.linkReady_oracle (s : State) (r : Bool) :
    (s.linkReady r).oracle = s.oracle := rfl
@[simp] theorem State.linkReady_epoch (s : State) (r : Bool) :
    (s.linkReady r).epoch = s.epoch := rfl

/-! ### placeCommand -/

@[simp] theorem State.placeCommand_cfg (s : State) (w : Word) :
    (s.placeCommand w).cfg = s.cfg := rfl
@[simp] theorem State.placeCommand_drv (s : State) (w : Word) :
    (s.placeCommand w).drv = s.drv := rfl
@[simp] theorem State.placeCommand_app (s : State) (w : Word) :
    (s.placeCommand w).app = s.app := rfl
@[simp] theorem State.placeCommand_freeq (s : State) (w : Word) :
    (s.placeCommand w).freeq = s.freeq := rfl
@[simp] theorem State.placeCommand_txq (s : State) (w : Word) :
    (s.placeCommand w).txq = s.txq := rfl
@[simp] theorem State.placeCommand_rxq (s : State) (w : Word) :
    (s.placeCommand w).rxq = s.rxq := rfl
@[simp] theorem State.placeCommand_bld (s : State) (w : Word) :
    (s.placeCommand w).bld = s.bld := rfl
@[simp] theorem State.placeCommand_tx (s : State) (w : Word) :
    (s.placeCommand w).tx = s.tx := rfl
@[simp] theorem State.placeCommand_txie (s : State) (w : Word) :
    (s.placeCommand w).txie = s.txie := rfl
@[simp] theorem State.placeCommand_rx (s : State) (w : Word) :
    (s.placeCommand w).rx = s.rx := rfl
@[simp] theorem State.placeCommand_active (s : State) (w : Word) :
    (s.placeCommand w).active = s.active := rfl
@[simp] theorem State.placeCommand_regs (s : State) (w : Word) :
    (s.placeCommand w).regs = s.regs := rfl
@[simp] theorem State.placeCommand_fg (s : State) (w : Word) :
    (s.placeCommand w).fg = { s.fg with cmdPort := some w } := rfl
@[simp] theorem State.placeCommand_link (s : State) (w : Word) :
    (s.placeCommand w).link = s.link := rfl
@[simp] theorem State.placeCommand_mem (s : State) (w : Word) :
    (s.placeCommand w).mem = s.mem := rfl
@[simp] theorem State.placeCommand_oracle (s : State) (w : Word) :
    (s.placeCommand w).oracle = { s.oracle with sched := .fg :: s.oracle.sched } := rfl
@[simp] theorem State.placeCommand_epoch (s : State) (w : Word) :
    (s.placeCommand w).epoch = s.epoch := rfl

/-! ### setFlags -/

@[simp] theorem State.setFlags_cfg (s : State) (p : PktId) (f : Byte) :
    (s.setFlags p f).cfg = s.cfg := by cases p <;> rfl
@[simp] theorem State.setFlags_freeq (s : State) (p : PktId) (f : Byte) :
    (s.setFlags p f).freeq = s.freeq := by cases p <;> rfl
@[simp] theorem State.setFlags_txq (s : State) (p : PktId) (f : Byte) :
    (s.setFlags p f).txq = s.txq := by cases p <;> rfl
@[simp] theorem State.setFlags_rxq (s : State) (p : PktId) (f : Byte) :
    (s.setFlags p f).rxq = s.rxq := by cases p <;> rfl
@[simp] theorem State.setFlags_bld (s : State) (p : PktId) (f : Byte) :
    (s.setFlags p f).bld = s.bld := by cases p <;> rfl
@[simp] theorem State.setFlags_tx (s : State) (p : PktId) (f : Byte) :
    (s.setFlags p f).tx = s.tx := by cases p <;> rfl
@[simp] theorem State.setFlags_txie (s : State) (p : PktId) (f : Byte) :
    (s.setFlags p f).txie = s.txie := by cases p <;> rfl
@[simp] theorem State.setFlags_rx (s : State) (p : PktId) (f : Byte) :
    (s.setFlags p f).rx = s.rx := by cases p <;> rfl
@[simp] theorem State.setFlags_active (s : State) (p : PktId) (f : Byte) :
    (s.setFlags p f).active = s.active := by cases p <;> rfl
@[simp] theorem State.setFlags_regs (s : State) (p : PktId) (f : Byte) :
    (s.setFlags p f).regs = s.regs := by cases p <;> rfl
@[simp] theorem State.setFlags_fg (s : State) (p : PktId) (f : Byte) :
    (s.setFlags p f).fg = s.fg := by cases p <;> rfl
@[simp] theorem State.setFlags_link (s : State) (p : PktId) (f : Byte) :
    (s.setFlags p f).link = s.link := by cases p <;> rfl
@[simp] theorem State.setFlags_mem (s : State) (p : PktId) (f : Byte) :
    (s.setFlags p f).mem = s.mem := by cases p <;> rfl
@[simp] theorem State.setFlags_oracle (s : State) (p : PktId) (f : Byte) :
    (s.setFlags p f).oracle = s.oracle := by cases p <;> rfl
@[simp] theorem State.setFlags_epoch (s : State) (p : PktId) (f : Byte) :
    (s.setFlags p f).epoch = s.epoch := by cases p <;> rfl
@[simp] theorem State.setFlags_drv (s : State) (i : Nat) (f : Byte) :
    s.setFlags (.drv i) f = s.setDrv i { s.drvPkt i with flags := f } := rfl
@[simp] theorem State.setFlags_app (s : State) (h : Nat) (f : Byte) :
    s.setFlags (.app h) f = s.setApp h { s.appPkt h with flags := f } := rfl

/-! ### setFlagsLength -/

@[simp] theorem State.setFlagsLength_cfg (s : State) (p : PktId) (f : Byte) (n : Half) :
    (s.setFlagsLength p f n).cfg = s.cfg := by cases p <;> rfl
@[simp] theorem State.setFlagsLength_freeq (s : State) (p : PktId) (f : Byte) (n : Half) :
    (s.setFlagsLength p f n).freeq = s.freeq := by cases p <;> rfl
@[simp] theorem State.setFlagsLength_txq (s : State) (p : PktId) (f : Byte) (n : Half) :
    (s.setFlagsLength p f n).txq = s.txq := by cases p <;> rfl
@[simp] theorem State.setFlagsLength_rxq (s : State) (p : PktId) (f : Byte) (n : Half) :
    (s.setFlagsLength p f n).rxq = s.rxq := by cases p <;> rfl
@[simp] theorem State.setFlagsLength_bld (s : State) (p : PktId) (f : Byte) (n : Half) :
    (s.setFlagsLength p f n).bld = s.bld := by cases p <;> rfl
@[simp] theorem State.setFlagsLength_tx (s : State) (p : PktId) (f : Byte) (n : Half) :
    (s.setFlagsLength p f n).tx = s.tx := by cases p <;> rfl
@[simp] theorem State.setFlagsLength_txie (s : State) (p : PktId) (f : Byte) (n : Half) :
    (s.setFlagsLength p f n).txie = s.txie := by cases p <;> rfl
@[simp] theorem State.setFlagsLength_rx (s : State) (p : PktId) (f : Byte) (n : Half) :
    (s.setFlagsLength p f n).rx = s.rx := by cases p <;> rfl
@[simp] theorem State.setFlagsLength_active (s : State) (p : PktId) (f : Byte) (n : Half) :
    (s.setFlagsLength p f n).active = s.active := by cases p <;> rfl
@[simp] theorem State.setFlagsLength_regs (s : State) (p : PktId) (f : Byte) (n : Half) :
    (s.setFlagsLength p f n).regs = s.regs := by cases p <;> rfl
@[simp] theorem State.setFlagsLength_fg (s : State) (p : PktId) (f : Byte) (n : Half) :
    (s.setFlagsLength p f n).fg = s.fg := by cases p <;> rfl
@[simp] theorem State.setFlagsLength_link (s : State) (p : PktId) (f : Byte) (n : Half) :
    (s.setFlagsLength p f n).link = s.link := by cases p <;> rfl
@[simp] theorem State.setFlagsLength_mem (s : State) (p : PktId) (f : Byte) (n : Half) :
    (s.setFlagsLength p f n).mem = s.mem := by cases p <;> rfl
@[simp] theorem State.setFlagsLength_oracle (s : State) (p : PktId) (f : Byte) (n : Half) :
    (s.setFlagsLength p f n).oracle = s.oracle := by cases p <;> rfl
@[simp] theorem State.setFlagsLength_epoch (s : State) (p : PktId) (f : Byte) (n : Half) :
    (s.setFlagsLength p f n).epoch = s.epoch := by cases p <;> rfl
@[simp] theorem State.setFlagsLength_drv (s : State) (i : Nat) (f : Byte) (n : Half) :
    s.setFlagsLength (.drv i) f n = s.setDrv i { s.drvPkt i with flags := f, length := n } := rfl
@[simp] theorem State.setFlagsLength_app (s : State) (h : Nat) (f : Byte) (n : Half) :
    s.setFlagsLength (.app h) f n = s.setApp h { s.appPkt h with flags := f, length := n } := rfl

/-! ### setLength -/

@[simp] theorem State.setLength_cfg (s : State) (p : PktId) (n : Half) :
    (s.setLength p n).cfg = s.cfg := by cases p <;> rfl
@[simp] theorem State.setLength_freeq (s : State) (p : PktId) (n : Half) :
    (s.setLength p n).freeq = s.freeq := by cases p <;> rfl
@[simp] theorem State.setLength_txq (s : State) (p : PktId) (n : Half) :
    (s.setLength p n).txq = s.txq := by cases p <;> rfl
@[simp] theorem State.setLength_rxq (s : State) (p : PktId) (n : Half) :
    (s.setLength p n).rxq = s.rxq := by cases p <;> rfl
@[simp] theorem State.setLength_bld (s : State) (p : PktId) (n : Half) :
    (s.setLength p n).bld = s.bld := by cases p <;> rfl
@[simp] theorem State.setLength_tx (s : State) (p : PktId) (n : Half) :
    (s.setLength p n).tx = s.tx := by cases p <;> rfl
@[simp] theorem State.setLength_txie (s : State) (p : PktId) (n : Half) :
    (s.setLength p n).txie = s.txie := by cases p <;> rfl
@[simp] theorem State.setLength_rx (s : State) (p : PktId) (n : Half) :
    (s.setLength p n).rx = s.rx := by cases p <;> rfl
@[simp] theorem State.setLength_active (s : State) (p : PktId) (n : Half) :
    (s.setLength p n).active = s.active := by cases p <;> rfl
@[simp] theorem State.setLength_regs (s : State) (p : PktId) (n : Half) :
    (s.setLength p n).regs = s.regs := by cases p <;> rfl
@[simp] theorem State.setLength_fg (s : State) (p : PktId) (n : Half) :
    (s.setLength p n).fg = s.fg := by cases p <;> rfl
@[simp] theorem State.setLength_link (s : State) (p : PktId) (n : Half) :
    (s.setLength p n).link = s.link := by cases p <;> rfl
@[simp] theorem State.setLength_mem (s : State) (p : PktId) (n : Half) :
    (s.setLength p n).mem = s.mem := by cases p <;> rfl
@[simp] theorem State.setLength_oracle (s : State) (p : PktId) (n : Half) :
    (s.setLength p n).oracle = s.oracle := by cases p <;> rfl
@[simp] theorem State.setLength_epoch (s : State) (p : PktId) (n : Half) :
    (s.setLength p n).epoch = s.epoch := by cases p <;> rfl
@[simp] theorem State.setLength_drv (s : State) (i : Nat) (n : Half) :
    s.setLength (.drv i) n = s.setDrv i { s.drvPkt i with length := n } := rfl
@[simp] theorem State.setLength_app (s : State) (h : Nat) (n : Half) :
    s.setLength (.app h) n = s.setApp h { s.appPkt h with length := n } := rfl

end Sys2Proof.Machine
end

