-- ==== Sys2Proof/Laws/Ops.lean ====
section
/-! SUPPORT. One lemma per shared operation, saying what it can do; later proofs cite these and do not unfold the
operation. -/

namespace Sys2Proof.Machine

/-! ### Memories -/

@[simp] theorem Memory.find_nil (a : Nat) : Memory.find [] a = none := rfl

/-- A read after a write to the same address gives the byte written. -/
theorem Memory.find_put_same (m : Memory) (a : Nat) (v : Byte) : (m.put a v).find a = some v := by
  induction m with
  | nil => simp [Memory.put, Memory.find]
  | cons c rest ih =>
    simp only [Memory.put]
    split
    · simp [Memory.find]
    · split
      · simp [Memory.find]
      · rename_i h1 h2
        simp [Memory.find, Ne.symm h2, ih]

/-- A write leaves every other address as it was. -/
theorem Memory.find_put_other (m : Memory) {a b : Nat} (v : Byte) (h : b ≠ a) : (m.put a v).find b = m.find b := by
  induction m with
  | nil => simp [Memory.put, Memory.find, h.symm]
  | cons c rest ih =>
    simp only [Memory.put]
    split
    · simp [Memory.find, h.symm]
    · split
      · rename_i h1 h2
        simp [Memory.find, h.symm, ← h2]
      · simp [Memory.find, ih]

theorem Memory.find_put (m : Memory) (a b : Nat) (v : Byte) :
    (m.put a v).find b = if b = a then some v else m.find b := by
  split
  · next h => subst h; exact Memory.find_put_same m b v
  · next h => exact Memory.find_put_other m v h

/-- What a write puts into the list. -/
theorem Memory.mem_put {m : Memory} {a : Nat} {v : Byte} {c : Host.Cell} (h : c ∈ m.put a v) : c = (a, v) ∨ c ∈ m := by
  induction m with
  | nil => simpa [Memory.put] using h
  | cons d rest ih =>
    simp only [Memory.put] at h
    split at h
    · simpa using h
    · split at h
      · simp only [List.mem_cons] at h ⊢; tauto
      · simp only [List.mem_cons] at h ⊢
        rcases h with h | h
        · exact .inr (.inl h)
        · rcases ih h with h | h
          · exact .inl h
          · exact .inr (.inr h)

/-- A write keeps the canonical form. -/
theorem Memory.wf_put {m : Memory} (h : m.wf) (a : Nat) (v : Byte) : (m.put a v).wf := by
  induction m with
  | nil => simp [Memory.wf, Memory.put]
  | cons c rest ih =>
    have hc := List.pairwise_cons.1 h
    simp only [Memory.put]
    split
    · next hlt =>
      refine List.pairwise_cons.2 ⟨fun d hd => ?_, h⟩
      rcases List.mem_cons.1 hd with rfl | hd
      · exact hlt
      · exact Nat.lt_trans hlt (hc.1 d hd)
    · split
      · next _ heq =>
        subst heq
        exact List.pairwise_cons.2 ⟨hc.1, hc.2⟩
      · refine List.pairwise_cons.2 ⟨fun d hd => ?_, ih hc.2⟩
        rcases Memory.mem_put hd with rfl | hd
        · simp only; omega
        · exact hc.1 d hd

/-- Host memory after reset is in canonical form. -/
theorem State.reset_mem_wf : State.reset.mem.wf := List.Pairwise.nil

/-- A refused or admitted read (R73). -/
theorem State.memRead_eq_some {s : State} {a : Nat} {v : Byte} :
    s.memRead a = some v ↔ s.admits a = true ∧ s.memByte a = v := by
  unfold State.memRead; split <;> simp_all

/-- What a write to host memory does when it happens (R74). -/
theorem State.memWrite_eq_some {s t : State} {a : Nat} {v : Byte} :
    s.memWrite a v = some t ↔ s.admits a = true ∧ t = { s with mem := s.mem.put a v } := by
  unfold State.memWrite
  split
  · next h => simp only [Option.some.injEq, h, true_and]; exact eq_comm
  · next h => simp [h]

/-! ### Packet records -/

theorem State.drvPkt_setDrv_same {s : State} {i : Nat} (h : i < s.nDrv) (p : DrvPkt) :
    (s.setDrv i p).drvPkt i = p := by
  have : i < s.drv.length := h
  simp [State.drvPkt, this]

theorem State.drvPkt_setDrv_other (s : State) {i j : Nat} (h : j ≠ i) (p : DrvPkt) :
    (s.setDrv i p).drvPkt j = s.drvPkt j := by
  simp [State.drvPkt, List.getD_eq_getElem?_getD, List.getElem?_set_ne h.symm]

theorem State.appPkt_setApp_same {s : State} {h : Nat} (hh : h < s.nApp) (p : AppPkt) :
    (s.setApp h p).appPkt h = p := by
  have : h < s.app.length := hh
  simp [State.appPkt, this]

theorem State.appPkt_setApp_other (s : State) {h g : Nat} (hg : g ≠ h) (p : AppPkt) :
    (s.setApp h p).appPkt g = s.appPkt g := by
  simp [State.appPkt, List.getD_eq_getElem?_getD, List.getElem?_set_ne hg.symm]

theorem State.drvPkt_congr {s t : State} (h : t.drv = s.drv) (i : Nat) : t.drvPkt i = s.drvPkt i := by
  simp [State.drvPkt, h]

theorem State.appPkt_congr {s t : State} (h : t.app = s.app) (g : Nat) : t.appPkt g = s.appPkt g := by
  simp [State.appPkt, h]

/-- A record of the driver table is a member of it. -/
theorem State.drvPkt_mem {s : State} {i : Nat} (h : i < s.nDrv) : s.drvPkt i ∈ s.drv := by
  have h' : i < s.drv.length := h
  simp [State.drvPkt, List.getD_eq_getElem?_getD, h']

/-- A record of the application table is a member of it. -/
theorem State.appPkt_mem {s : State} {g : Nat} (h : g < s.nApp) : s.appPkt g ∈ s.app := by
  have h' : g < s.app.length := h
  simp [State.appPkt, List.getD_eq_getElem?_getD, h']

@[simp] theorem State.nDrv_setDrv (s : State) (i : Nat) (p : DrvPkt) : (s.setDrv i p).nDrv = s.nDrv := by
  simp [State.nDrv]

@[simp] theorem State.nApp_setApp (s : State) (h : Nat) (p : AppPkt) : (s.setApp h p).nApp = s.nApp := by
  simp [State.nApp]

/-- A write of a driver buffer byte, read back (R70). -/
theorem State.dbuf_setDbuf {s : State} {i : Nat} (h : i < s.nDrv) (k k' : Nat) (v : Byte) :
    (s.setDbuf i k v).dbuf i k' = if k' = k then v else s.dbuf i k' := by
  unfold State.dbuf State.setDbuf
  rw [State.drvPkt_setDrv_same h]
  simp only [Memory.find_put, State.setDrv_epoch]
  split <;> rfl

/-! ### Queues, places and checks -/

@[simp] theorem dequeue_nil {α : Type} : dequeue ([] : List α) = none := rfl
@[simp] theorem dequeue_cons {α : Type} (p : α) (rest : List α) : dequeue (p :: rest) = some (p, rest) := rfl

/-- When a driver slot is consumer-held (R146): in range, and in none of the places of R145. -/
theorem State.held_iff {s : State} {i : Nat} :
    s.held i = true ↔ i < s.nDrv ∧ i ∉ s.freeq ∧ s.bld.pkt ≠ some i ∧ PktId.drv i ∉ s.txq ∧
      s.tx.pkt ≠ some (.drv i) ∧ s.rx.pkt ≠ some (.drv i) ∧ i ∉ s.rxq := by
  unfold State.held State.loc
  by_cases h1 : i ∈ s.freeq <;> by_cases h2 : s.bld.pkt = some i <;> by_cases h3 : PktId.drv i ∈ s.txq <;>
    by_cases h4 : s.tx.pkt = some (.drv i) <;> by_cases h5 : s.rx.pkt = some (.drv i) <;>
    by_cases h6 : i ∈ s.rxq <;> simp [h1, h2, h3, h4, h5, h6]

/-- When a handle is busy (R147). -/
theorem State.busy_iff {s : State} {h : Nat} :
    s.busy h = true ↔ s.tx.pkt = some (.app h) ∨ s.rx.pkt = some (.app h) ∨ PktId.app h ∈ s.txq := by
  simp [State.busy, or_assoc]

theorem State.checkHandle_bad {s : State} {h : Byte} (hh : s.nApp ≤ h.toNat) (t : State) :
    s.checkHandle h t = s.putResult .badHandle 0 0 0 := if_pos hh

theorem State.checkHandle_ok {s : State} {h : Byte} (hh : h.toNat < s.nApp) (t : State) :
    s.checkHandle h t = t := if_neg (Nat.not_le.2 hh)

theorem State.checkBusy_busy {s : State} {h : Byte} (hb : s.busy h.toNat = true) (t : State) :
    s.checkBusy h t = s.putResult .busy h 0 0 := if_pos hb

theorem State.checkBusy_free {s : State} {h : Byte} (hb : s.busy h.toNat = false) (t : State) :
    s.checkBusy h t = t := by simp [State.checkBusy, slotOfA, hb]

theorem State.checkHeld_held {s : State} {i : Byte} (hh : s.held i.toNat = true) (t : State) :
    s.checkHeld i t = t := if_pos hh

theorem State.checkHeld_not {s : State} {i : Byte} (hh : s.held i.toNat = false) (t : State) :
    s.checkHeld i t = s.putResult .badHandle 0 0 0 := by simp [State.checkHeld, slotOfA, hh]

/-! ### Builder -/

theorem State.bldFlush_none {s : State} (h : s.bld.pkt = none) : s.bldFlush = s := by simp [State.bldFlush, h]

theorem State.bldFlush_some {s : State} {i : Nat} (h : s.bld.pkt = some i) : s.bldFlush = s.bldFinish true i := by
  simp [State.bldFlush, h]

/-- A lazy start answers the open fragment, or opens the head of FREEQ; it answers nothing exactly in a hold (R163). -/
theorem State.bldLazy_cases (s : State) :
    (∃ i, s.bld.pkt = some i ∧ s.bldLazy = some (i, s)) ∨
    (∃ i rest, s.bld.pkt = none ∧ s.freeq = i :: rest ∧
      s.bldLazy = some (i, State.bldOpen { s with freeq := rest } i (openFlags s.bld.carry (!s.bld.cont)))) ∨
    (s.bld.pkt = none ∧ s.freeq = [] ∧ s.bldLazy = none) := by
  unfold State.bldLazy
  cases hb : s.bld.pkt with
  | some i => exact .inl ⟨i, rfl, rfl⟩
  | none =>
    cases hq : s.freeq with
    | nil => exact .inr (.inr ⟨rfl, rfl, rfl⟩)
    | cons i rest => exact .inr (.inl ⟨i, rest, rfl, rfl, rfl⟩)

/-! ### Engines -/

/-- What a payload store of RXE does when it happens (R229). -/
theorem State.rxStore_eq_some {s t : State} {p : PktId} {b : Byte} (h : s.rxStore p b = some t) :
    ∃ s1, s.rxWrite p (s.lengthOf p).toNat b = some s1 ∧
      t = { s1.setLength p (s.lengthOf p + 1) with
            rx := { s1.rx with rem := s1.rx.rem - 1, state := if s1.rx.rem - 1 = 0 then .awaitEnd else .awaitDataEsc } } := by
  unfold State.rxStore at h
  cases hw : s.rxWrite p (s.lengthOf p).toNat b with
  | none => simp [hw] at h
  | some s1 => exact ⟨s1, rfl, by simpa [hw] using h.symm⟩

/-- A payload step of TXE reads one byte, and sends it or its escape (R196). -/
theorem State.txData_eq_some {s t : State} {p : PktId} (h : s.txData p = some t) :
    ∃ b, s.txByte p s.tx.pos.toNat = some b ∧
      ((isReserved b = true ∧ t = State.emit { s with tx := { s.tx with lit := b, state := .sentEsc } } markESCAPE) ∨
       (isReserved b = false ∧ t = (s.emit b).txAdvance p)) := by
  unfold State.txData at h
  cases hb : s.txByte p s.tx.pos.toNat with
  | none => simp [hb] at h
  | some b =>
    refine ⟨b, rfl, ?_⟩
    by_cases hr : isReserved b = true
    · exact .inl ⟨hr, by simpa [hb, hr] using h.symm⟩
    · exact .inr ⟨by simpa using hr, by simpa [hb, hr] using h.symm⟩

/-- A turn of TXE is its step, or nothing (R190). -/
theorem State.txTurn_cases (s : State) :
    s.txTurn = s ∨ (s.link.txReady = true ∧ s.txie = true ∧ s.txStep = some s.txTurn) := by
  unfold State.txTurn
  split
  · next h =>
    cases ht : s.txStep with
    | none => exact .inl rfl
    | some t => exact .inr ⟨h.1, h.2, rfl⟩
  · exact .inl rfl

/-- A turn of RXE is its step on the presented byte, or nothing (R220). -/
theorem State.rxTurn_cases (s : State) :
    s.rxTurn = s ∨ ∃ b, s.link.rxData = some b ∧ s.takeByte.rxStep b = some s.rxTurn := by
  unfold State.rxTurn
  cases hd : s.link.rxData with
  | none => exact .inl rfl
  | some b =>
    cases ht : s.takeByte.rxStep b with
    | none => exact .inl (by simp [ht])
    | some t => exact .inr ⟨b, rfl, by simp [ht]⟩

end Sys2Proof.Machine
end

