-- ==== Sys2Proof/Laws/Foreground.lean ====
section
/-! SUPPORT. What the foreground's accesses to host memory can do (20_memory.md R81, R86), one lemma each; later proofs
cite these and do not unfold the access. -/

namespace Sys2Proof.Machine

/-- A byte write changes one admitted address, and counts a draw in a race; or it changes nothing. -/
theorem State.hostWrite_cases (s : State) (a : Nat) (b : Byte) :
    s.hostWrite a b = s ∨ s.admits a = true ∧
      (s.raced a = false ∧ s.hostWrite a b = { s with mem := s.mem.put a b } ∨
        s.raced a = true ∧ s.hostWrite a b = { s.drawn with mem := s.mem.put a (Config.openByte s.oracle.draws) }) := by
  unfold State.hostWrite
  cases ha : s.admits a <;> cases hr : s.raced a <;> simp

/-- A byte read changes what the foreground has seen, and counts a draw where the byte is open. -/
theorem State.hostRead_cases (s : State) (a : Nat) :
    s.admits a = true ∧ s.raced a = false ∧ s.hostRead a = s.sees ((s.memByte a).setWidth 32) ∨
      s.hostRead a = s.drawn.sees ((Config.openByte s.oracle.draws).setWidth 32) := by
  unfold State.hostRead
  cases ha : s.admits a <;> cases hr : s.raced a <;> simp

/-- A byte write is refused in the register window and is otherwise `hostWrite`. -/
theorem State.poke_eq_next {s t : State} {a : Nat} {b : Byte} :
    s.poke a b = .next t ↔ s.inWindow a = false ∧ s.hostWrite a b = t := by
  unfold State.poke
  cases s.inWindow a <;> simp

/-- A byte read is refused in the register window and is otherwise `hostRead`. -/
theorem State.peek_eq_next {s t : State} {a : Nat} : s.peek a = .next t ↔ s.inWindow a = false ∧ s.hostRead a = t := by
  unfold State.peek
  cases s.inWindow a <;> simp

/-- An admitted address is none of the window (R77). -/
theorem State.inWindow_of_admits {s : State} {a : Nat} (h : s.admits a = true) : s.inWindow a = false := by
  simp only [State.admits, Bool.and_eq_true, Bool.not_eq_true'] at h
  exact h.2

end Sys2Proof.Machine
end

