-- ==== Sys2Proof/Laws/PerInstr.lean ====
section
/-! SUPPORT. The per-instruction family `EncodesItsRow`: the word of a command matches its row of the opcode map
(30_encoding.md R103, R106: match under the mask 0xFF0000FF). -/

namespace Sys2Proof.Laws.EncodesItsRow

/-- The `match` value of a command's row of the opcode map (R103). -/
def rowMatch : Instr → Word
  | .nop => 0x00000000
  | .startOutgoing _ => 0x00000001
  | .appendByte _ => 0x00000002
  | .appendInfer _ => 0x00000003
  | .flush => 0x00000004
  | .queueTx _ _ => 0x00000010
  | .armRx _ => 0x00000011
  | .isTxDone _ => 0x00000012
  | .isRxDone _ => 0x00000013
  | .release _ => 0x00000014
  | .rxCollect => 0x00000020
  | .rxReadByte _ => 0x00000021
  | .rxFree _ => 0x00000022
  | .setActive _ => 0x00000030
  | .queryActive => 0x00000031

/-- The command's word, under the decoder's mask, is its row's match value. -/
def Statement (i : Instr) : Prop := encode i &&& 0xFF0000FF = rowMatch i

/-- A word put together from three fields keeps OP and RSV = 0 under the mask. -/
theorem assemble_masked (b a op : Byte) : assemble b a op &&& 0xFF0000FF = (0 : BitVec 24) ++ op := by
  ext i hi
  simp only [assemble, BitVec.getElem_and, BitVec.getElem_append]
  rcases i with _ | _ | _ | _ | _ | _ | _ | _ | _ | _ | _ | _ | _ | _ | _ | _ | _ | _ | _ | _ | _ | _ | _ | _ | _ | _ |
    _ | _ | _ | _ | _ | _ | i <;> first | omega | simp

theorem nop : Statement .nop := assemble_masked _ _ _
theorem startOutgoing (usage : Byte) : Statement (.startOutgoing usage) := assemble_masked _ _ _
theorem appendByte (b : Byte) : Statement (.appendByte b) := assemble_masked _ _ _
theorem appendInfer (b : Byte) : Statement (.appendInfer b) := assemble_masked _ _ _
theorem flush : Statement .flush := assemble_masked _ _ _
theorem queueTx (h flags : Byte) : Statement (.queueTx h flags) := assemble_masked _ _ _
theorem armRx (h : Byte) : Statement (.armRx h) := assemble_masked _ _ _
theorem isTxDone (h : Byte) : Statement (.isTxDone h) := assemble_masked _ _ _
theorem isRxDone (h : Byte) : Statement (.isRxDone h) := assemble_masked _ _ _
theorem release (h : Byte) : Statement (.release h) := assemble_masked _ _ _
theorem rxCollect : Statement .rxCollect := assemble_masked _ _ _
theorem rxReadByte (i : Byte) : Statement (.rxReadByte i) := assemble_masked _ _ _
theorem rxFree (i : Byte) : Statement (.rxFree i) := assemble_masked _ _ _
theorem setActive (bit : Byte) : Statement (.setActive bit) := assemble_masked _ _ _
theorem queryActive : Statement .queryActive := assemble_masked _ _ _

end Sys2Proof.Laws.EncodesItsRow
end

