-- ==== Sys2Proof/Laws/Places.lean ====
section
/-! SUPPORT. The tests the commands make (40_pool_queues.md R145 to R147) in terms of the lists of places (10_state.md
R39), so that no later proof unfolds `loc` or `busy`. -/

namespace Sys2Proof.Machine

theorem mem_filterMap_drvSlot {q : List PktId} {i : Nat} : i ∈ q.filterMap PktId.drvSlot ↔ PktId.drv i ∈ q := by
  rw [List.mem_filterMap]
  constructor
  · rintro ⟨p, hp, h⟩
    cases p with
    | drv j => cases h; exact hp
    | app g => cases h
  · exact fun h => ⟨_, h, rfl⟩

theorem mem_filterMap_appSlot {q : List PktId} {h : Nat} : h ∈ q.filterMap PktId.appSlot ↔ PktId.app h ∈ q := by
  rw [List.mem_filterMap]
  constructor
  · rintro ⟨p, hp, e⟩
    cases p with
    | drv j => cases e
    | app g => cases e; exact hp
  · exact fun e => ⟨_, e, rfl⟩

theorem bind_drvSlot_eq {o : Option PktId} {i : Nat} : o.bind PktId.drvSlot = some i ↔ o = some (.drv i) := by
  rcases o with _ | ⟨j⟩ | ⟨g⟩ <;> simp [PktId.drvSlot]

theorem bind_appSlot_eq {o : Option PktId} {h : Nat} : o.bind PktId.appSlot = some h ↔ o = some (.app h) := by
  rcases o with _ | ⟨j⟩ | ⟨g⟩ <;> simp [PktId.appSlot]

/-- A driver slot stands in a place exactly when one of R145's tests finds it. -/
theorem State.mem_drvPlaces {s : State} {i : Nat} :
    i ∈ s.drvPlaces ↔ i ∈ s.freeq ∨ s.bld.pkt = some i ∨ PktId.drv i ∈ s.txq ∨ s.tx.pkt = some (.drv i) ∨
      s.rx.pkt = some (.drv i) ∨ i ∈ s.rxq := by
  simp only [State.drvPlaces, List.mem_append, mem_filterMap_drvSlot, Option.mem_toList, bind_drvSlot_eq,
    or_assoc]

/-- An application slot stands in a place exactly when one of R147's tests finds it. -/
theorem State.mem_appPlaces {s : State} {h : Nat} :
    h ∈ s.appPlaces ↔ PktId.app h ∈ s.txq ∨ s.tx.pkt = some (.app h) ∨ s.rx.pkt = some (.app h) := by
  simp only [State.appPlaces, List.mem_append, mem_filterMap_appSlot, Option.mem_toList, bind_appSlot_eq,
    or_assoc]

/-- `busy` (R147). -/
theorem State.busy_iff_mem_appPlaces {s : State} {h : Nat} : s.busy h = true ↔ h ∈ s.appPlaces := by
  rw [State.busy_iff, State.mem_appPlaces]
  constructor <;> (rintro (h | h | h) <;> simp [h])

/-- Consumer-held (R146): in range and in none of the places. -/
theorem State.held_iff_not_mem_drvPlaces {s : State} {i : Nat} :
    s.held i = true ↔ i < s.nDrv ∧ i ∉ s.drvPlaces := by
  rw [State.held_iff, State.mem_drvPlaces]
  simp only [not_or, ne_eq]

end Sys2Proof.Machine
end

