-- ==== Sys2Proof/Laws/Words.lean ====
section
/-! SUPPORT. Words as four bytes: the fields of a word put together from bytes (30_encoding.md R101), so that no later
proof goes down to bits. -/

namespace Sys2Proof

/-- A bit of four bytes put together. -/
theorem getLsbD_fourBytes (x b a op : Byte) (i : Nat) :
    BitVec.getLsbD (w := 32) (x ++ b ++ a ++ op) i =
      if i < 8 then op.getLsbD i else if i < 16 then a.getLsbD (i - 8)
      else if i < 24 then b.getLsbD (i - 16) else x.getLsbD (i - 24) := by
  refine (BitVec.getLsbD_append (x := x ++ b ++ a) (y := op)).trans ?_
  split
  · rfl
  · refine (BitVec.getLsbD_append (x := x ++ b) (y := a)).trans ?_
    split <;> split <;> try omega
    · rfl
    · refine (BitVec.getLsbD_append (x := x) (y := b)).trans ?_
      split <;> split <;> first | omega | congr 1

/-- OP of four bytes (R101). -/
@[simp] theorem fieldOP_fourBytes (x b a op : Byte) : fieldOP (x ++ b ++ a ++ op) = op := by
  apply BitVec.eq_of_getLsbD_eq
  intro i hi
  simp only [fieldOP, BitVec.getLsbD_extractLsb', getLsbD_fourBytes, hi, decide_true, Bool.true_and]
  split <;> first | omega | (congr 1; omega)

/-- A of four bytes (R101). -/
@[simp] theorem fieldA_fourBytes (x b a op : Byte) : fieldA (x ++ b ++ a ++ op) = a := by
  apply BitVec.eq_of_getLsbD_eq
  intro i hi
  simp only [fieldA, BitVec.getLsbD_extractLsb', getLsbD_fourBytes, hi, decide_true, Bool.true_and]
  repeat' split
  all_goals first | omega | (congr 1; omega)

/-- B of four bytes (R101). -/
@[simp] theorem fieldB_fourBytes (x b a op : Byte) : fieldB (x ++ b ++ a ++ op) = b := by
  apply BitVec.eq_of_getLsbD_eq
  intro i hi
  simp only [fieldB, BitVec.getLsbD_extractLsb', getLsbD_fourBytes, hi, decide_true, Bool.true_and]
  repeat' split
  all_goals first | omega | (congr 1; omega)

/-- RSV of four bytes (R101). -/
@[simp] theorem fieldRSV_fourBytes (x b a op : Byte) : fieldRSV (x ++ b ++ a ++ op) = x := by
  apply BitVec.eq_of_getLsbD_eq
  intro i hi
  simp only [fieldRSV, BitVec.getLsbD_extractLsb', getLsbD_fourBytes, hi, decide_true, Bool.true_and]
  repeat' split
  all_goals first | omega | (congr 1; omega)

/-- A word is its four bytes put together (20_memory.md R79). -/
@[simp] theorem wordOfBytes_bytesOfWord (w : Word) :
    wordOfBytes (fieldOP w) (fieldA w) (fieldB w) (fieldRSV w) = w := by
  apply BitVec.eq_of_getLsbD_eq
  intro i hi
  simp only [wordOfBytes, getLsbD_fourBytes, fieldOP, fieldA, fieldB, fieldRSV, BitVec.getLsbD_extractLsb']
  repeat' split
  all_goals
    rw [decide_eq_true (by omega), Bool.true_and]
    congr 1
    omega

/-- Decoding the four bytes of a word is decoding the word. -/
theorem decodeBytes_bytesOfWord (w : Word) :
    decodeBytes (bytesOfWord w) = match decode w with
      | .ok i => .ok (i, [])
      | .error r => .error r := by
  cases h : decode w <;> simp only [bytesOfWord, decodeBytes, wordOfBytes_bytesOfWord, h]

/-- The table's word is decoded as the decoder decodes it. -/
theorem decodeTableWord_eq (nbits w : Nat) :
    decodeTableWord nbits w = match decode (tableWord nbits w) with
      | .ok i => some i
      | .error _ => none := by
  unfold decodeTableWord
  rw [decodeBytes_bytesOfWord]
  cases decode (tableWord nbits w) <;> rfl

end Sys2Proof
end

