-- ==== Sys2Proof/Tests/Slice0.lean ====
section
/-! SUPPORT. Tests. Expected values come from 95_test_vectors.md (the vector is named) or from the rule named. The last
part gives, for every obligation with hypotheses, states and operands that meet them. -/

namespace Sys2Proof.Tests
open Sys2Proof.Machine

/-! ### Helpers -/

/-- RESULT, RESULT_LEN and STATUS of the state reached. -/
def view (o : Host.Outcome State Fault Refusal) : Option (Word × Half × Word) :=
  match o with
  | .next t => some (t.regs.result, t.regs.resultLen, t.statusWord)
  | .fault _ => none
  | .refused _ => none

/-- One step that runs the command word `w`. -/
def run (w : Nat) (s : State) : Host.Outcome State Fault Refusal := step (s.withFetchWord 32 w)

/-- What a reached state answers to a question. -/
def ask {α : Type} (f : State → α) (o : Host.Outcome State Fault Refusal) : Option α :=
  match o with
  | .next t => some (f t)
  | .fault _ => none
  | .refused _ => none

/-- The state with that draw to come next. -/
def draws (d : Draw) (s : State) : State := { s with oracle := { s.oracle with sched := [d] } }

/-- The state with these argument registers. -/
def args (len addr : Nat) (s : State) : State :=
  { s with regs := { s.regs with argLen := BitVec.ofNat 16 len, argAddr := BitVec.ofNat 32 addr } }

/-- The state with that driver record and buffer. -/
def drv (i : Nat) (flags : Byte) (data : List Byte) (s : State) : State :=
  s.setDrv i { flags := flags, length := BitVec.ofNat 16 data.length, buf := (List.range data.length).zip data }

/-- The state with that application record. -/
def app (h : Nat) (flags : Byte) (cap len addr : Nat) (s : State) : State :=
  s.setApp h
    { flags := flags, capacity := BitVec.ofNat 16 cap, length := BitVec.ofNat 16 len, buffer := BitVec.ofNat 32 addr,
      index := BitVec.ofNat 8 h }

/-- The state with RXE in that state, filling that packet. -/
def rxing (st : RxState) (p : Option PktId) (size rem : Nat) (s : State) : State :=
  { s with rx := { s.rx with state := st, pkt := p, size := BitVec.ofNat 16 size, rem := BitVec.ofNat 16 rem } }

/-- The state with TXE in that state, sending that packet. -/
def txing (st : TxState) (p : PktId) (pos : Nat) (lit : Byte) (s : State) : State :=
  { s with tx := { state := st, pkt := some p, pos := BitVec.ofNat 16 pos, lit := lit }, txie := true }

/-- The state with that byte presented to RXE and RXE drawn next. -/
def presents (b : Byte) (s : State) : State := draws .rxe { s with link := { s.link with rxData := some b } }

/-- The state with `tx_ready` and TXE drawn next. -/
def offers (s : State) : State := draws .txe { s with link := { s.link with txReady := true } }

/-! ### Well-formed commands (R103, R106) -/

theorem test_wf_refuses_wide_usage : (Instr.startOutgoing 4).wf = false := by decide
theorem test_wf_refuses_wide_flags : (Instr.queueTx 0 16).wf = false := by decide
theorem test_wf_refuses_wide_bit : (Instr.setActive 2).wf = false := by decide

/-! ### Decoding: RSV, B, A, OP written out (R101, R103; V-E1 to V-E19) -/

theorem test_decode_nop : decode 0b00000000000000000000000000000000 = .ok .nop := by decide
theorem test_decode_startOutgoing : decode 0b00000000000000010000000000000001 = .ok (.startOutgoing 1) := by decide
theorem test_decode_appendByte : decode 0b00000000010000010000000000000010 = .ok (.appendByte 0x41) := by decide
theorem test_decode_appendInfer : decode 0b00000000000110110000000000000011 = .ok (.appendInfer 0x1B) := by decide
theorem test_decode_flush : decode 0b00000000111111110010000000000100 = .ok .flush := by decide
theorem test_decode_queueTx : decode 0b00000000000011100000010100010000 = .ok (.queueTx 5 0x0E) := by decide
theorem test_decode_armRx : decode 0b00000000000000000000001100010001 = .ok (.armRx 3) := by decide
theorem test_decode_isTxDone : decode 0b00000000000000000000010100010010 = .ok (.isTxDone 5) := by decide
theorem test_decode_isRxDone : decode 0b00000000000000000000011100010011 = .ok (.isRxDone 7) := by decide
theorem test_decode_release : decode 0b00000000000000000000010100010100 = .ok (.release 5) := by decide
theorem test_decode_rxCollect : decode 0b00000000000000000000000000100000 = .ok .rxCollect := by decide
theorem test_decode_rxReadByte : decode 0b00000000000000000000000000100001 = .ok (.rxReadByte 0) := by decide
theorem test_decode_rxFree : decode 0b00000000000000000000000100100010 = .ok (.rxFree 1) := by decide
theorem test_decode_setActive : decode 0b00000000111111100000000000110000 = .ok (.setActive 0) := by decide
theorem test_decode_queryActive : decode 0b00000000000000000000000000110001 = .ok .queryActive := by decide
theorem test_decode_rejects_illegal_opcode : decode 0x00000005 = .error (.illegalOpcode 0x05) := by decide
theorem test_decode_rejects_reserved_bits : decode 0x12340004 = .error .reservedBits := by decide
theorem test_decode_rejects_short : decodeBytes [0x04, 0x00, 0x00] = .error .truncated := by decide
theorem test_decodeTableWord_queueTx : decodeTableWord 32 0x000E0510 = some (.queueTx 5 0x0E) := by decide

/-! ### Commands, one step each -/

/-- V-C11. -/
theorem test_nop : view (run 0x00000000 State.reset) = some (0, 0, 0x00040000) := by decide
/-- V-B1; the status word by R48. -/
theorem test_startOutgoing : view (run 0x00020001 State.reset) = some (0x00060000, 0, 0x00030024) := by decide
/-- V-B11: the second START_OUTGOING of a pool of one packet. -/
theorem test_startOutgoing_unavailable :
    view (run 0x00010001 { State.launch { Params.default with nDrv := 1 } [] with
      drv := [{ flags := 0x06, length := 0, buf := [] }], freeq := [],
      bld := { pkt := some 0, carry := 2, cont := false } }) = some (0x00000001, 0, 0x00000012) := by decide
/-- V-B2. -/
theorem test_appendByte : view (run 0x00410002 State.reset) = some (0x00040000, 1, 0x00030004) := by decide
/-- P5: the fourth byte fills a packet of capacity 4. -/
theorem test_appendByte_full :
    view (run 0x00040002 { State.launch { Params.default with nDrv := 2, drvCap := 4 } [] with
      drv := [{ flags := 0x05, length := 3, buf := [(0, 1), (1, 2), (2, 3)] }, DrvPkt.reset], freeq := [1],
      bld := { pkt := some 0, carry := 1, cont := false } }) = some (0x00150000, 4, 0x0001001A) := by decide
/-- V-B3. -/
theorem test_appendInfer_command : view (run 0x007F0003 State.reset) = some (0x00050000, 1, 0x00030014) := by decide
/-- V-B4. -/
theorem test_appendInfer_print : view (run 0x007E0003 State.reset) = some (0x00040000, 1, 0x00030004) := by decide
/-- V-B6. -/
theorem test_flush_nothing : view (run 0x00000004 State.reset) = some (0, 0, 0x00040000) := by decide
/-- E1, step 4. -/
theorem test_flush :
    ask (fun t => (t.statusWord, (t.drvPkt 0).flags, t.txq)) (run 0x00000004 { drv 0 0x04 [0x41, 0x42, 0x43] State.reset with
      freeq := [1, 2, 3], bld := { pkt := some 0, carry := 0, cont := false } }) =
      some (0x00030002, 0x1C, [.drv 0]) := by decide
/-- V-A1. -/
theorem test_queueTx :
    ask (fun t => (t.regs.result, t.statusWord, t.appPkt 5)) (run 0x000E0510 (args 2 0x1000 State.reset)) =
      some (0x009E0500, 0x00040002, { flags := 0x9E, capacity := 2, length := 2, buffer := 0x1000, index := 5 }) := by
  decide
/-- V-A4. -/
theorem test_queueTx_bad_handle : view (run 0x00001010 State.reset) = some (0x00000003, 0, 0x00040000) := by decide
/-- V-A5. -/
theorem test_armRx :
    ask (fun t => (t.regs.result, t.regs.resultLen, t.appPkt 3)) (run 0x00000311 (args 4 0x2000 State.reset)) =
      some (0x00D00300, 4, { flags := 0xD0, capacity := 4, length := 0, buffer := 0x2000, index := 3 }) := by decide
/-- V-RX2: busy while RXE fills the slot. -/
theorem test_armRx_busy :
    view (run 0x00000311 (rxing .awaitSize1 (some (.app 3)) 0 0 (app 3 0xDC 4 0 0x2000 State.reset))) =
      some (0x00000302, 0, 0x00043000) := by decide
/-- V-A6. -/
theorem test_isTxDone :
    view (run 0x00000512 (app 5 0xAE 2 2 0x1000 State.reset)) = some (0x00AE0100, 2, 0x00040000) := by decide
/-- V-RX2: a received packet is not tx-done. -/
theorem test_isTxDone_of_received :
    view (run 0x00000312 (app 3 0xEC 4 2 0x2000 State.reset)) = some (0x00EC0000, 2, 0x00040000) := by decide
/-- V-RX2. -/
theorem test_isRxDone :
    view (run 0x00000313 (app 3 0xEC 4 2 0x2000 State.reset)) = some (0x00EC0100, 2, 0x00040000) := by decide
/-- V-A8. -/
theorem test_isRxDone_idle : view (run 0x00000313 State.reset) = some (0x00800000, 0, 0x00040000) := by decide
/-- V-A7. -/
theorem test_release :
    view (run 0x00000514 (app 5 0xAE 2 2 0x1000 State.reset)) = some (0x008E0500, 2, 0x00040000) := by decide
/-- V-A3. -/
theorem test_release_busy :
    view (run 0x00000514 { app 5 0x9E 2 2 0x1000 State.reset with txq := [.app 5], txie := true }) =
      some (0x00000502, 0, 0x00040002) := by decide

/-- The state of V-RX1: DRV(0) received, "ABC". -/
def received : State := { drv 0 0x6C [0x41, 0x42, 0x43] State.reset with freeq := [1, 2, 3], rxq := [0] }

/-- V-C1. -/
theorem test_rxCollect : view (run 0x00000020 received) = some (0x006C0000, 3, 0x00030000) := by decide
/-- V-C7. -/
theorem test_rxCollect_empty : view (run 0x00000020 State.reset) = some (0x00000005, 0, 0x00040000) := by decide
/-- V-C2. -/
theorem test_rxReadByte :
    view (run 0x00000021 (args 1 0 { received with rxq := [] })) = some (0x006C4200, 3, 0x00030000) := by decide
/-- V-C3. -/
theorem test_rxReadByte_bad_arg :
    view (run 0x00000021 (args 3 0 { received with rxq := [] })) = some (0x00000006, 0, 0x00030000) := by decide
/-- V-C5. -/
theorem test_rxFree :
    ask (fun t => (t.regs.result, t.freeq, (t.drvPkt 0).flags, (t.drvPkt 0).length))
      (run 0x00000022 { received with rxq := [] }) = some (0, [1, 2, 3, 0], 0, 0) := by decide
/-- V-C6. -/
theorem test_rxFree_not_held : view (run 0x00000022 State.reset) = some (0x00000003, 0, 0x00040000) := by decide
/-- V-C8. -/
theorem test_setActive : view (run 0x00010030 State.reset) = some (0x00000100, 0, 0x00040001) := by decide
/-- V-C10: only B[0] counts. -/
theorem test_setActive_ignores_b7_1 :
    view (run 0x00FE0030 { State.reset with active := true }) = some (0, 0, 0x00040000) := by decide
/-- V-C9. -/
theorem test_queryActive :
    view (run 0x00000031 { State.reset with active := true }) = some (0x00000100, 0, 0x00040001) := by decide
/-- V-E17: RSV = 1 is answered ILLEGAL, and no byte is appended. -/
theorem test_not_a_command : view (run 0x01000002 State.reset) = some (0x00000004, 0, 0x00040000) := by decide

/-! ### Engines, one step each -/

/-- V-TX1, step 1. -/
theorem test_txe_start :
    ask (fun t => (t.link.wire, t.tx.state, t.tx.pos))
      (step (offers { drv 0 0x1D [0x8C] State.reset with freeq := [1, 2, 3], txq := [.drv 0], txie := true })) =
      some ([0x8C], .sentStart, 0) := by decide
/-- V-TX1, step 5: a marker in the payload is escaped. -/
theorem test_txe_escape :
    ask (fun t => (t.link.wire, t.tx.state, t.tx.lit))
      (step (offers (txing .sentSize2 (.drv 0) 0 0 { drv 0 0x1D [0x8C] State.reset with freeq := [1, 2, 3] }))) =
      some ([0x9D], .sentEsc, 0x8C) := by decide
/-- V-TX1, step 6. -/
theorem test_txe_literal :
    ask (fun t => (t.link.wire, t.tx.state, t.tx.pos))
      (step (offers (txing .sentEsc (.drv 0) 0 0x8C { drv 0 0x1D [0x8C] State.reset with freeq := [1, 2, 3] }))) =
      some ([0x8C], .sentAllData, 1) := by decide
/-- V-TX1, step 7. -/
theorem test_txe_end :
    ask (fun t => (t.link.wire, t.tx.state, (t.drvPkt 0).flags, t.freeq))
      (step (offers (txing .sentAllData (.drv 0) 1 0x8C { drv 0 0x1D [0x8C] State.reset with freeq := [1, 2, 3] }))) =
      some ([0xAE], .idle, 0x2D, [1, 2, 3, 0]) := by decide
/-- V-TX2: the INDEX byte, raw. -/
theorem test_txe_index :
    ask (fun t => (t.link.wire, t.tx.state))
      (step (offers (txing .sentFlags (.app 5) 0 0 (app 5 0x9E 2 2 0x1000 State.reset)))) =
      some ([0x05], .sentIndex) := by decide
/-- V-TX6. -/
theorem test_txe_disables :
    ask (fun t => (t.link.wire, t.txie)) (step (offers { State.reset with txie := true })) = some ([], false) := by
  decide
/-- V-TX3: the frame of an empty packet; V-TX2: that of a payload with a marker. -/
theorem test_frames :
    frameOf 0x1C none [] = [0x8C, 0x0C, 0x00, 0x00, 0xAE] ∧
    frameOf 0x9E (some 0x05) [0x9D, 0x41] = [0x8C, 0x8E, 0x05, 0x02, 0x00, 0x9D, 0x9D, 0x41, 0xAE] := by decide

/-- E2: FLAGS of a driver packet takes DRV(0). -/
theorem test_rxe_flags :
    ask (fun t => (t.rx.state, (t.drvPkt 0).flags, t.freeq)) (step (presents 0x0C (rxing .awaitFlags none 0 0 State.reset))) =
      some (.awaitSize1, 0x5C, [1, 2, 3]) := by decide
/-- E2: a size of 5000 is refused. -/
theorem test_rxe_size_too_large :
    ask (fun t => (t.rx.state, (t.drvPkt 0).flags, t.freeq))
      (step (presents 0x13 (rxing .awaitSize2 (some (.drv 0)) 0x88 0 { drv 0 0x5C [] State.reset with freeq := [1, 2, 3] }))) =
      some (.awaitStart, 0, [1, 2, 3, 0]) := by decide
/-- V-RX2: after ESCAPE a marker is payload. -/
theorem test_rxe_stores_escaped :
    ask (fun t => (t.rx.state, t.rx.rem, t.mem, (t.appPkt 3).length))
      (step (presents 0xAE (rxing .awaitData (some (.app 3)) 2 2 (app 3 0xDC 4 0 0x2000 State.reset)))) =
      some (.awaitDataEsc, 1, [(0x2000, 0xAE)], 1) := by decide
/-- V-RX1: END delivers. -/
theorem test_rxe_end :
    ask (fun t => (t.rx.state, (t.drvPkt 0).flags, t.rxq))
      (step (presents 0xAE (rxing .awaitEnd (some (.drv 0)) 3 0 { drv 0 0x5C [0x41, 0x42, 0x43] State.reset with freeq := [1, 2, 3] }))) =
      some (.awaitStart, 0x6C, [0]) := by decide
/-- V-RX13: a wrong byte at AWAIT_END arms the slot again. -/
theorem test_rxe_abort_rearms :
    ask (fun t => (t.rx.state, t.appPkt 3))
      (step (presents 0x00 (rxing .awaitEnd (some (.app 3)) 2 0 (app 3 0xD0 4 2 0x2000 State.reset)))) =
      some (.awaitStart, { flags := 0xD0, capacity := 4, length := 0, buffer := 0x2000, index := 3 }) := by decide
/-- V-RX4: an index that is no handle. -/
theorem test_rxe_index_out_of_range :
    ask (fun t => t.rx.state) (step (presents 0x10 (rxing .awaitIndex none 0 0 State.reset))) = some .awaitStart := by
  decide

/-! ### The foreground and the window -/

/-- R44: ARG_LEN keeps 16 bits; the access is made by the foreground's turn. -/
theorem test_write_argLen :
    ask (fun t => (t.regs.argLen, t.fg.ops))
      (step (draws .fg { State.reset with fg := { cmdPort := none, ops := [.regWrite 0x1000004 4 0xABCD1234], seen := [] } })) =
      some (0x1234, []) := by decide
/-- R45: ARG_ADDR keeps ADDR_W bits. -/
theorem test_write_argAddr :
    ask (fun t => t.regs.argAddr)
      (step (draws .fg { State.reset with fg := { cmdPort := none, ops := [.regWrite 0x1000008 4 0xAB001000], seen := [] } })) =
      some 0x001000 := by decide
/-- R81: a byte read of the window is refused. -/
theorem test_narrow_read_refused : State.reset.regRead 0x1000014 1 = .refused .windowAccess := rfl
/-- R81: so is a byte access that the foreground makes to host memory's map, at the window's first and last byte. -/
theorem test_byte_access_refused :
    State.reset.poke 0x1000000 0x55 = .refused .windowAccess ∧ State.reset.peek 0x100001F = .refused .windowAccess :=
  ⟨rfl, rfl⟩
/-- R81: the byte just past the window is none of it; the foreground goes on. -/
theorem test_byte_access_past_window :
    ask (fun t => t.mem) (State.reset.poke 0x1000020 0x55) = some [] ∧
    ask (fun t => t.fg.seen.length) (State.reset.peek 0x1000020) = some 1 := by decide
/-- R163, P6: an APPEND with the pool dry holds. -/
theorem test_append_holds :
    ask (fun t => (t.fg.cmdPort, t.regs.result)) (run 0x00410002 { State.reset with freeq := [] }) =
      some (some 0x00410002, 0) := by decide
/-- R108: SEND_MESSAGE. -/
theorem test_sendMessage :
    Pseudo.commands (.sendMessage 2 [0x41]) = [.startOutgoing 2, .appendByte 0x41, .flush] := by decide

/-! ### Witnesses: for every obligation with hypotheses, states and operands that meet them together -/

/-- A small instance: two driver packets of two bytes, two application slots, 256 bytes of host memory, all admitted. -/
def small : State :=
  State.launch { nDrv := 2, drvCap := 2, nApp := 2, addrW := 8, regBase := 0x100 } [{ base := 0, size := 256 }]

/-- A fragment with one byte is open in slot 0. -/
def building : State := { drv 0 0x05 [0x41] small with freeq := [1], bld := { pkt := some 0, carry := 1, cont := false } }

/-- An empty fragment is open in slot 0. -/
def opened : State := { drv 0 0x05 [] small with freeq := [1], bld := { pkt := some 0, carry := 1, cont := false } }

/-- A fragment is open and FREEQ is empty. -/
def lastOpen : State := { building with freeq := [], rxq := [1], drv := [building.drvPkt 0, { flags := 0x60, length := 0, buf := [] }] }

/-- Both driver packets wait in RXQ: FREEQ is empty and no fragment is open. -/
def dry : State := { drv 0 0x60 [0x41] (drv 1 0x6C [] small) with freeq := [], rxq := [0, 1] }

/-- Slot 0 is consumer-held, with one byte. -/
def holding : State := { drv 0 0x60 [0x41] small with freeq := [1] }

/-- The full driver packet 0 waits in TXQ, and application slot 1 behind it; both payloads hold a marker. -/
def queued : State :=
  { drv 0 0x1C [0x8C, 0x41] (app 1 0x9C 1 1 0x10 small) with
    freeq := [1], txq := [.drv 0, .app 1], txie := true, mem := [(0x10, 0x9D)] }

/-- Application slot 1 alone waits in TXQ. -/
def queuedApp : State := { app 1 0x9C 1 1 0x10 small with txq := [.app 1], txie := true, mem := [(0x10, 0x9D)] }

/-- TXE in that state on driver packet 0 of `queued`. -/
def sending (st : TxState) (pos : Nat) : State := txing st (.drv 0) pos 0x8C { queued with txq := [.app 1] }

/-- TXE in that state on application slot 1. -/
def sendingApp (st : TxState) (pos : Nat) : State := txing st (.app 1) pos 0x9D { queuedApp with txq := [] }

/-- Application slot 1 is armed for two bytes at 0xFF, wrapping to 0. -/
def armed : State := app 1 0xD0 2 0 0xFF small

/-- RXE in that state on driver packet 0, which holds `data`. -/
def filling (st : RxState) (data : List Byte) (size rem : Nat) : State :=
  rxing st (some (.drv 0)) size rem { drv 0 0x50 data small with freeq := [1] }

/-- RXE in that state on application slot 1, `len` bytes received. -/
def fillingApp (st : RxState) (len size rem : Nat) : State :=
  rxing st (some (.app 1)) size rem (app 1 0xD0 2 len 0xFF small)

/-- The same machine with no host memory admitted. -/
def noRam (s : State) : State := { s with cfg := { s.cfg with ram := [] } }

/-- The word is outstanding at the command port and the foreground is drawn next. -/
def outstanding (w : Word) (s : State) : State := draws .fg { s with fg := { cmdPort := some w, ops := [], seen := [] } }

/-- The foreground's next access, and it is drawn next. -/
def access (op : HostOp) (s : State) : State := draws .fg { s with fg := { cmdPort := none, ops := [op], seen := [] } }

/-- The named states all satisfy the invariant. -/
theorem test_states_meet_the_invariant :
    ∀ s ∈ [small, building, opened, lastOpen, dry, holding, queued, queuedApp, armed], s.Inv := by decide

theorem test_engine_states_meet_the_invariant :
    ∀ s ∈ [sending .sentStart 0, sending .sentFlags 0, sending .sentSize1 0, sending .sentSize2 0, sending .sentData 1,
      sending .sentEsc 0, sending .sentAllData 2, sendingApp .sentIndex 0, sendingApp .sentSize2 0,
      sendingApp .sentAllData 1, filling .awaitSize1 [] 0 0, filling .awaitSize2 [] 2 0, filling .awaitDataEsc [0x41] 2 1,
      filling .awaitEnd [0x41, 0x42] 2 0, fillingApp .awaitData 0 2 2, fillingApp .awaitEnd 2 2 0], s.Inv := by decide

theorem test_meets_DecodeOfEncodeIsIdentity :
    (Instr.startOutgoing 3).wf = true ∧ (Instr.queueTx 0xFF 15).wf = true ∧ (Instr.setActive 1).wf = true := by decide

theorem test_meets_UnusedBitsAreIgnored :
    (decode 0x00FF0001 = .ok (.startOutgoing 3) ∧
      (0x00030001 : Word) &&& usedBits (.startOutgoing 3) = 0x00FF0001 &&& usedBits (.startOutgoing 3)) ∧
    (0x00FF2004 : Word) &&& 0xFF0000FF = 0x00000004 &&& 0xFF0000FF ∧
    (0x01FF2005 : Word) &&& 0xFF0000FF = 0x01000005 &&& 0xFF0000FF := by decide

theorem test_meets_IllegalWordOnlyAnswersIllegal :
    decode 0x00FF0001 = .ok (.startOutgoing 3) ∧ (0x01000000 : Word).extractLsb' 24 8 ≠ 0 ∧
    (0x00000005 : Word).extractLsb' 0 8 ∉ opcodes ∧ (0x00000032 : Word).extractLsb' 0 8 ∉ opcodes := by decide

theorem test_meets_ControlCommandsAnswer :
    Instr.rxCollect ≠ .queryActive ∧ (∀ x, Instr.rxCollect ≠ .setActive x) ∧ ∃ t, exec .rxCollect dry = .next t :=
  ⟨by decide, fun _ h => (by cases h), _, rfl⟩

theorem test_meets_StartOutgoingOpensOrFails :
    small.Located ∧ small.freeq = [0, 1] ∧ building.Located ∧ lastOpen.Located ∧ lastOpen.freeq = [] := by decide

/-- An open fragment that stays open, one that the byte fills, and a byte that opens one. -/
theorem test_meets_AppendByteStoresAndCloses :
    (opened.Located ∧ opened.bld.pkt = some 0 ∧ 0x05 = (opened.drvPkt 0).flags ∧ 0 = (opened.drvPkt 0).length ∧
      [1] = opened.freeq ∧ (0 + 1 : Half).toNat ≠ opened.cfg.drvCap) ∧
    (building.Located ∧ building.bld.pkt = some 0 ∧ 0x05 = (building.drvPkt 0).flags ∧
      1 = (building.drvPkt 0).length ∧ [1] = building.freeq ∧ (1 + 1 : Half).toNat = building.cfg.drvCap) ∧
    (small.Located ∧ small.bld.pkt = none ∧ small.freeq = [0, 1] ∧
      (0x04 : Byte) = small.bld.carry.setWidth 8 ||| (if small.bld.cont then 0x00 else 0x04)) := by decide

theorem test_meets_AppendInferChoosesUsage :
    (lastOpen.bld.pkt ≠ none ∨ lastOpen.freeq ≠ []) ∧ small.bld.pkt = none ∧ small.bld.cont = false ∧
    small.freeq ≠ [] := by decide

theorem test_meets_AppendHoldsExactlyWhenExhausted :
    ((outstanding 0x00410002 dry).nextDraw = .fg ∧ (outstanding 0x00410002 dry).fg.cmdPort = some 0x00410002 ∧
      decode 0x00410002 = .ok (.appendByte 0x41) ∧ dry.bld.pkt = none ∧ dry.freeq = []) ∧
    ((outstanding 0x00410003 lastOpen).nextDraw = .fg ∧
      (outstanding 0x00410003 lastOpen).fg.cmdPort = some 0x00410003 ∧
      decode 0x00410003 = .ok (.appendInfer 0x41) ∧ lastOpen.bld.pkt ≠ none) := by decide

theorem test_meets_FlushHandsOverAndClearsCarry : small.Located ∧ building.Located := by decide

/-- The clauses of the handle commands: the last handle, the first number past it, a busy handle. -/
theorem test_meets_handle_clauses :
    small.nApp ≤ (0x02 : Byte).toNat ∧ ¬small.nApp ≤ (0x01 : Byte).toNat ∧ (0x01 : Byte).toNat ∉ small.appPlaces ∧
    (0x01 : Byte).toNat ∈ queued.appPlaces ∧ (0x01 : Byte).toNat ∈ (fillingApp .awaitEnd 2 2 0).appPlaces := by decide

theorem test_meets_PredicatesRepeatUnchanged :
    (∃ t, exec (.isTxDone 1) small = .next t ∧ ∃ u, exec (.isTxDone 1) t = .next u) ∧
    (∃ t, exec (.isRxDone 1) small = .next t ∧ ∃ u, exec (.isRxDone 1) t = .next u) :=
  ⟨⟨_, rfl, _, rfl⟩, ⟨_, rfl, _, rfl⟩⟩

theorem test_meets_SecondQueueAttemptIsBusy :
    (0x01 : Byte).toNat < small.nApp ∧ (0x01 : Byte).toNat ∉ small.appPlaces ∧
      ∃ t, exec (.queueTx 1 0x0C) small = .next t := ⟨by decide, by decide, _, rfl⟩

/-- The clauses of the consumer commands: RXQ empty or not; a slot past the table, one in FREEQ, one held; the offset at
the length and just below it. -/
theorem test_meets_consumer_clauses :
    small.rxq = [] ∧ dry.rxq = [0, 1] ∧ ¬(0x02 : Byte).toNat < holding.nDrv ∧
    (0x01 : Byte).toNat ∈ holding.drvPlaces ∧ ((0x00 : Byte).toNat < holding.nDrv ∧ (0x00 : Byte).toNat ∉ holding.drvPlaces) ∧
    (holding.drvPkt 0).length.toNat ≤ (args 1 0 holding).regs.argLen.toNat ∧
    ¬(holding.drvPkt 0).length.toNat ≤ (args 0 0 holding).regs.argLen.toNat := by decide

theorem test_meets_OnlyTheConsumerHolds :
    (dry.Inv ∧ ∃ t, exec .rxCollect dry = .next t ∧ dry.held 0 = false ∧ t.held 0 = true) ∧
    (holding.Inv ∧ ∃ t, exec .nop holding = .next t ∧ holding.held 0 = true ∧ t.held 0 = true) :=
  ⟨⟨by decide, _, rfl, by decide, by decide⟩, ⟨by decide, _, rfl, by decide, by decide⟩⟩

theorem test_meets_CommandsLeaveTheEnginesAlone : ∃ t, exec (.appendByte 0x41) building = .next t := ⟨_, rfl⟩

/-- A failing command, and a failing command on a handle. -/
theorem test_meets_FailedCommandsChangeNothing :
    (∃ t, exec .rxCollect small = .next t ∧ t.fg.cmdPort = none ∧ t.regs.result.extractLsb' 0 8 ≠ 0) ∧
    (∃ t, exec (.queueTx 2 0) small = .next t ∧ t.fg.cmdPort = none ∧ t.regs.result.extractLsb' 0 8 ≠ 0) :=
  ⟨⟨_, rfl, by decide, by decide⟩, ⟨_, rfl, by decide, by decide⟩⟩

theorem test_meets_RegisterWindow :
    ∀ p ∈ [(0x00, (0 : Word)), (0x14, small.statusWord), (0x1C, 0)],
      p ∈ [(0x00, 0), (0x04, (0 : BitVec 16) ++ small.regs.argLen), (0x08, small.regs.argAddr), (0x0C, small.regs.result),
        (0x10, (0 : BitVec 16) ++ small.regs.resultLen), (0x14, small.statusWord), (0x18, 0), (0x1C, 0)] := by decide

/-- The clauses of an access that the window refuses: a byte access at its first and last byte; a register access of the
last byte before its end, one across its start, and a word that is not aligned. -/
theorem test_meets_OtherWindowAccessesAreRefused :
    (small.cfg.regBase ≤ 0x100 ∧ 0x100 < small.cfg.regBase + 32 ∧ small.cfg.regBase ≤ 0x11F ∧
      0x11F < small.cfg.regBase + 32) ∧
    (0x11F < small.cfg.regBase + 32 ∧ small.cfg.regBase < 0x11F + 1 ∧ (1 : Nat) ≠ 4) ∧
    (0xFD < small.cfg.regBase + 32 ∧ small.cfg.regBase < 0xFD + 4 ∧ ∀ k < 8, 0xFD ≠ small.cfg.regBase + 4 * k) ∧
    (0x101 < small.cfg.regBase + 32 ∧ small.cfg.regBase < 0x101 + 4 ∧ ∀ k < 8, 0x101 ≠ small.cfg.regBase + 4 * k) := by
  decide

/-- A turn without a step, one with, and one that host memory refuses. -/
theorem test_meets_TxeStepsOnReadyAndEnabled :
    ¬(small.link.txReady = true ∧ small.txie = true) ∧
    ((offers queued).link.txReady = true ∧ (offers queued).txie = true ∧ (offers queued).txStep.isSome = true) ∧
    ((noRam (sendingApp .sentSize2 0)).tx.pkt = some (.app 1) ∧
      (noRam (sendingApp .sentSize2 0)).admits ((0x10 + 0) % 2 ^ 8) = false ∧
      (noRam (sendingApp .sentSize2 0)).txStep = none) := by decide

theorem test_meets_TxIdleStartsOrDisables :
    small.tx.state = .idle ∧ small.txq = [] ∧ queued.tx.state = .idle ∧ queued.txq = [.drv 0, .app 1] := by decide

theorem test_meets_TxHeaderBytes :
    (sending .sentStart 0).tx.pkt = some (.drv 0) ∧ (sending .sentStart 0).tx.state = .sentStart ∧
    (sendingApp .sentFlags 0).tx.pkt = some (.app 1) ∧ (sendingApp .sentFlags 0).tx.state = .sentFlags ∧
    ((sendingApp .sentFlags 0).flagsOf (.app 1)).getLsbD 7 = true ∧
    ((sending .sentFlags 0).flagsOf (.drv 0)).getLsbD 7 = false ∧ (sendingApp .sentIndex 0).tx.state = .sentIndex ∧
    (sending .sentSize1 0).tx.state = .sentSize1 := by decide

/-- A marker and a last byte of a driver packet, an application packet's byte, a latched literal. -/
theorem test_meets_TxPayloadBytes :
    ((sending .sentSize2 0).tx.pkt = some (.drv 0) ∧ (0x8C : Byte) = (sending .sentSize2 0).dbuf 0 0) ∧
    ((sending .sentData 1).tx.pkt = some (.drv 0) ∧ (0x41 : Byte) = (sending .sentData 1).dbuf 0 1) ∧
    ((sendingApp .sentSize2 0).tx.pkt = some (.app 1) ∧ (sendingApp .sentSize2 0).admits ((0x10 + 0) % 2 ^ 8) = true ∧
      (0x9D : Byte) = (sendingApp .sentSize2 0).memByte ((0x10 + 0) % 2 ^ 8)) ∧
    (sending .sentEsc 0).tx.state = .sentEsc := by decide

theorem test_meets_TxEndCompletesThePacket :
    ((sending .sentAllData 2).Located ∧ (sending .sentAllData 2).tx.pkt = some (.drv 0)) ∧
    (sendingApp .sentAllData 1).Located ∧ (sendingApp .sentAllData 1).tx.pkt = some (.app 1) := by decide

/-- The payloads of `queued` and `queuedApp`, which hold markers. -/
theorem test_meets_TransmitterEmitsTheFrame :
    (queued.Inv ∧ queued.tx.state = .idle ∧ queued.txq = .drv 0 :: [.app 1] ∧ queued.Payload (.drv 0) [0x8C, 0x41]) ∧
    (queuedApp.Inv ∧ queuedApp.tx.state = .idle ∧ queuedApp.txq = .app 1 :: [] ∧ queuedApp.Payload (.app 1) [0x9D]) := by
  refine ⟨⟨?_, ?_, ?_, ?_⟩, ?_, ?_, ?_, ?_⟩ <;> decide

theorem test_meets_RxeStepsOnAPresentedByte :
    small.link.rxData = none ∧
    ((presents 0x8C small).link.rxData = some 0x8C ∧ (State.rxStep small 0x8C).isSome = true) ∧
    ((presents 0x41 (noRam (fillingApp .awaitData 0 2 2))).rx.pkt = some (.app 1) ∧
      (presents 0x41 (noRam (fillingApp .awaitData 0 2 2))).admits ((0xFF + 0) % 2 ^ 8) = false) := by decide

/-- LINK presents the first byte; RXE takes it. -/
theorem test_meets_RxeStepsOnAPresentedByte_link :
    ask (fun t => (t.link.rxData, t.link.incoming))
      (step (draws .linkByte { small with link := { small.link with incoming := [0x8C, 0x0C] } })) =
      some (some 0x8C, [0x0C]) ∧
    ask (fun t => (t.link.rxData, t.link.incoming))
      (step (draws .rxe { small with link := { small.link with rxData := some 0x8C, incoming := [0x0C] } })) =
      some (none, [0x0C]) := by decide

theorem test_meets_RxStartAndFlags :
    (small.Located ∧ small.rx.state = .awaitStart) ∧ (rxing .awaitFlags none 0 0 small).Located ∧
    (rxing .awaitFlags none 0 0 dry).Located ∧ (rxing .awaitFlags none 0 0 dry).freeq = [] ∧
    (0x80 : Byte).getLsbD 7 = true ∧ (0x7F : Byte).getLsbD 7 = false := by decide

/-- The last handle, armed; a handle that is not armed; the first number past the handles. -/
theorem test_meets_RxIndexBindsArmedSlots :
    (rxing .awaitIndex none 0 0 armed).Located ∧ (0x01 : Byte).toNat < armed.nApp ∧
    (armed.appPkt 1).flags &&& 0x70 = 0x50 ∧ (armed.appPkt 0).flags &&& 0x70 ≠ 0x50 ∧
    ¬(0x02 : Byte).toNat < armed.nApp := by decide

/-- Sizes at the capacity, above it, and 0. -/
theorem test_meets_RxSizeIsCheckedAgainstCapacity :
    ((filling .awaitSize1 [] 0 0).Located ∧ (filling .awaitSize1 [] 0 0).rx.state = .awaitSize1) ∧
    ((filling .awaitSize2 [] 2 0).Located ∧ (filling .awaitSize2 [] 2 0).rx.pkt = some (.drv 0) ∧
      ¬(filling .awaitSize2 [] 2 0).cfg.drvCap < ((0x00 : Byte) ++ (2 : Half).extractLsb' 0 8).toNat) ∧
    (filling .awaitSize2 [] 3 0).cfg.drvCap < ((0x00 : Byte) ++ (3 : Half).extractLsb' 0 8).toNat ∧
    (0x00 : Byte) ++ (0 : Half).extractLsb' 0 8 = (0 : Half) := by decide

/-- A marker kept by an escape, an escape, the last byte, and a byte whose address wraps. -/
theorem test_meets_RxStoresPayloadBytes :
    ((filling .awaitDataEsc [0x41] 2 1).Located ∧ (filling .awaitDataEsc [0x41] 2 1).rx.pkt = some (.drv 0) ∧
      (0xAE : Byte) ≠ 0x9D) ∧
    ((fillingApp .awaitData 1 2 1).Located ∧ (fillingApp .awaitData 1 2 1).rx.pkt = some (.app 1) ∧
      ∀ h, PktId.app 1 = .app h → (fillingApp .awaitData 1 2 1).admits
        ((((fillingApp .awaitData 1 2 1).appPkt h).buffer.toNat + ((fillingApp .awaitData 1 2 1).appPkt h).length.toNat) %
          2 ^ (fillingApp .awaitData 1 2 1).cfg.addrW) = true) :=
  ⟨by decide, by decide, by decide, fun h e => by cases e; decide⟩

theorem test_meets_RxEndCompletesOrAborts :
    ((filling .awaitEnd [0x41, 0x42] 2 0).Located ∧ (filling .awaitEnd [0x41, 0x42] 2 0).rx.pkt = some (.drv 0)) ∧
    ((fillingApp .awaitEnd 2 2 0).Located ∧ (fillingApp .awaitEnd 2 2 0).rx.pkt = some (.app 1)) := by decide

theorem test_meets_NoPartialDelivery :
    ((presents 0xAE (filling .awaitEnd [0x41, 0x42] 2 0)).Inv ∧
      ∃ t, step (presents 0xAE (filling .awaitEnd [0x41, 0x42] 2 0)) = .next t ∧ 0 ∈ t.rxq) ∧
    ((presents 0xAE (fillingApp .awaitEnd 2 2 0)).Inv ∧
      ∃ t, step (presents 0xAE (fillingApp .awaitEnd 2 2 0)) = .next t ∧ (t.appPkt 1).flags &&& 0x60 = 0x60) :=
  ⟨⟨by decide, _, rfl, by decide⟩, ⟨by decide, _, rfl, by decide⟩⟩

/-- A payload of exactly the capacity, with markers, and the empty one. -/
theorem test_meets_ReceiverDeliversDriverFrames :
    small.Inv ∧ small.rx.state = .awaitStart ∧ small.freeq = 0 :: [1] ∧ (0x0C : Byte).getLsbD 7 = false ∧
    ([0x8C, 0x9D] : List Byte).length ≤ small.cfg.drvCap ∧ ([] : List Byte).length ≤ small.cfg.drvCap := by decide

/-- A payload of exactly the capacity, whose second byte wraps to address 0. -/
theorem test_meets_ReceiverDeliversApplicationFrames :
    armed.Inv ∧ armed.rx.state = .awaitStart ∧ (0x80 : Byte).getLsbD 7 = true ∧ (0x01 : Byte).toNat < armed.nApp ∧
    (armed.appPkt 1).flags &&& 0x70 = 0x50 ∧ ([0xAE, 0x9D] : List Byte).length ≤ (armed.appPkt 1).capacity.toNat ∧
    2 ≤ 2 ^ armed.cfg.addrW ∧
    ∀ k < 2, armed.admits (((armed.appPkt 1).buffer.toNat + k) % 2 ^ armed.cfg.addrW) = true := by
  refine ⟨?_, ?_, ?_, ?_, ?_, ?_, ?_, ?_⟩ <;> decide

theorem test_meets_DriverRoundTrip :
    (queued.Inv ∧ queued.tx.state = .idle ∧ queued.txq = .drv 0 :: [.app 1] ∧ queued.Payload (.drv 0) [0x8C, 0x41]) ∧
    small.Inv ∧ small.rx.state = .awaitStart ∧ small.freeq = 0 :: [1] ∧
    ([0x8C, 0x41] : List Byte).length ≤ small.cfg.drvCap := by
  refine ⟨⟨?_, ?_, ?_, ?_⟩, ?_, ?_, ?_, ?_⟩ <;> decide

/-- Four bytes fill both packets; three leave the second short. -/
theorem test_meets_BuilderFragmentsMessages :
    small.Inv ∧ small.bld.pkt = none ∧ 2 = (4 + small.cfg.drvCap - 1) / small.cfg.drvCap ∧
    2 = (3 + small.cfg.drvCap - 1) / small.cfg.drvCap ∧ 2 ≤ small.freeq.length := by decide

theorem test_meets_StepRunsTheDecodedCommand :
    ((outstanding 0x00410002 small).nextDraw = .fg ∧ (outstanding 0x00410002 small).fg.cmdPort = some 0x00410002 ∧
      decode 0x00410002 = .ok (.appendByte 0x41)) ∧
    ((access (.regWrite 0x100 4 0x04) small).nextDraw = .fg ∧ (access (.regWrite 0x100 4 0x04) small).fg.cmdPort = none ∧
      (access (.regWrite 0x100 4 0x04) small).fg.ops = .regWrite small.cfg.regBase 4 0x04 :: []) := by decide

theorem test_meets_QueuesAreFifos :
    (offers (sending .sentAllData 2)).nextDraw ≠ .reset ∧ ∃ t, step (offers (sending .sentAllData 2)) = .next t ∧
      t.freeq = [1, 0] := ⟨by decide, _, rfl, by decide⟩

/-- Foreground accesses just past a busy buffer: the slot of `fillingApp` has two bytes at 0xFF, so 0 is its last and 1 is
free; 0xFF itself is in it. -/
theorem test_meets_HostMemoryWriters_foreground :
    (access (.poke 0x01 0x55) (fillingApp .awaitData 1 2 1)).nextDraw = .fg ∧
    (access (.peek 0x01) (fillingApp .awaitData 1 2 1)).fg.ops = .peek 0x01 :: [] ∧
    (fillingApp .awaitData 1 2 1).admits 0x01 = true ∧
    (∀ h ∈ (fillingApp .awaitData 1 2 1).appPlaces, h < (fillingApp .awaitData 1 2 1).nApp →
      ∀ k < ((fillingApp .awaitData 1 2 1).appPkt h).capacity.toNat,
        0x01 ≠ (((fillingApp .awaitData 1 2 1).appPkt h).buffer.toNat + k) % 2 ^ (fillingApp .awaitData 1 2 1).cfg.addrW) ∧
    (fillingApp .awaitData 1 2 1).raced 0x01 = false ∧ (fillingApp .awaitData 1 2 1).raced 0x00 = true ∧
    (fillingApp .awaitData 1 2 1).raced 0xFF = true := by
  refine ⟨?_, ?_, ?_, ?_, ?_, ?_, ?_⟩ <;> decide

/-- RXE's store at a wrapped address, and a write by the foreground. -/
theorem test_meets_HostMemoryWriters :
    (∃ t, step (presents 0x41 (fillingApp .awaitData 1 2 1)) = .next t ∧ t.mem.find 0 = some 0x41) ∧
    (∃ t, step (access (.poke 0x20 0x55) small) = .next t ∧ t.mem.find 0x20 = some 0x55) :=
  ⟨⟨_, rfl, by decide⟩, ⟨_, rfl, by decide⟩⟩

/-- The host memory the launch admits never holds an address of the block's own window (R77). -/
theorem test_window_is_not_admitted :
    ({ small with cfg := { small.cfg with regBase := 0x80 } } : State).admits 0x80 = false ∧
    ({ small with cfg := { small.cfg with regBase := 0x80 } } : State).admits 0x7F = true ∧
    ({ small with cfg := { small.cfg with regBase := 0x80 } } : State).admits 0xA0 = true := by decide

theorem test_meets_DriverBufferWriters :
    ((outstanding 0x00550002 building).Inv ∧ (outstanding 0x00550002 building).nextDraw ≠ .reset ∧
      ∃ t, step (outstanding 0x00550002 building) = .next t ∧ t.dbuf 0 1 = 0x55) ∧
    ((presents 0x55 (filling .awaitData [0x41] 2 1)).Inv ∧
      ∃ t, step (presents 0x55 (filling .awaitData [0x41] 2 1)) = .next t ∧ t.dbuf 0 1 = 0x55) :=
  ⟨⟨by decide, by decide, _, rfl, by decide⟩, ⟨by decide, _, rfl, by decide⟩⟩

theorem test_meets_WireGrowsByTxeOnly :
    ∃ t, step (offers queued) = .next t ∧ t.link.wire = queued.link.wire ++ [0x8C] := ⟨_, rfl, by decide⟩

/-- The END step of a transmission, the completion and the abort of a reception. -/
theorem test_meets_BusyEndsWithTheTransfer :
    ((offers (sendingApp .sentAllData 1)).Inv ∧ 1 ∈ (sendingApp .sentAllData 1).appPlaces ∧
      ∃ t, step (offers (sendingApp .sentAllData 1)) = .next t ∧ 1 ∉ t.appPlaces) ∧
    ((presents 0xAE (fillingApp .awaitEnd 2 2 0)).Inv ∧
      ∃ t, step (presents 0xAE (fillingApp .awaitEnd 2 2 0)) = .next t ∧ 1 ∉ t.appPlaces) ∧
    (∃ t, step (presents 0x00 (fillingApp .awaitEnd 2 2 0)) = .next t ∧ 1 ∉ t.appPlaces ∧
      (t.appPkt 1).flags = 0xD0) :=
  ⟨⟨by decide, by decide, _, rfl, by decide⟩, ⟨by decide, _, rfl, by decide⟩, _, rfl, by decide, by decide⟩

theorem test_meets_PlatformResetRestoresTheBlock : ∃ t, State.turn queued .reset = .next t := ⟨_, rfl⟩

theorem test_meets_EndedRunsAreQuiet : small.runEnded ∧ ¬queued.runEnded := by decide

/-- P6: the pool is in RXQ and an APPEND holds. -/
theorem test_meets_DeadlockIsForever :
    (outstanding 0x00410002 dry).deadlocked ∧ (outstanding 0x00410002 dry).nextDraw ≠ .reset ∧
      ∃ t, step (outstanding 0x00410002 dry) = .next t :=
  ⟨⟨⟨0x00410002, by decide, by decide⟩, by decide, by decide, by decide⟩, by decide, _, rfl⟩

/-- The ends of the legal ranges of R6. -/
theorem test_meets_LaunchSatisfiesTheInvariant :
    Params.default.Legal ∧
    ({ nDrv := 255, drvCap := 65535, nApp := 256, addrW := 32, regBase := 0 } : Params).Legal ∧
    ({ nDrv := 1, drvCap := 1, nApp := 1, addrW := 1, regBase := 0 } : Params).Legal ∧
    ¬({ nDrv := 256, drvCap := 1, nApp := 1, addrW := 1, regBase := 0 } : Params).Legal := by decide

/-- For the five statements about what every step keeps: a step of each agent, from a state with the invariant. -/
theorem test_meets_StepKeepsTheInvariant :
    ((outstanding 0x00550002 building).Inv ∧ ∃ t, step (outstanding 0x00550002 building) = .next t) ∧
    ((offers (sending .sentEsc 0)).Inv ∧ ∃ t, step (offers (sending .sentEsc 0)) = .next t) ∧
    ((presents 0x9D (filling .awaitDataEsc [0x41] 2 1)).Inv ∧
      ∃ t, step (presents 0x9D (filling .awaitDataEsc [0x41] 2 1)) = .next t) ∧
    ((draws .reset queued).Inv ∧ ∃ t, step (draws .reset queued) = .next t) :=
  ⟨⟨by decide, _, rfl⟩, ⟨by decide, _, rfl⟩, ⟨by decide, _, rfl⟩, ⟨by decide, _, rfl⟩⟩

/-- The draws of a fair schedule. -/
def cycle (n : Nat) : Draw :=
  match n % 4 with
  | 0 => .txe
  | 1 => .linkReady true
  | 2 => .txe
  | _ => .rxe

/-- An execution under them: the END byte of application slot 1, the IDLE step, a byte consumed; then nothing more. -/
def trace : Nat → State
  | 0 => { sendingApp .sentAllData 1 with link := { rxData := some 0x41, incoming := [], txReady := true, wire := [] } }
  | n + 1 =>
    match (trace n).turn (cycle n) with
    | .next t => t
    | .fault _ => trace n
    | .refused _ => trace n

theorem small_admits (a : Nat) (h : a < 256) : small.admits a = true := by
  simp only [State.admits, State.inWindow, small, State.launch, List.any_cons, List.any_nil]
  have h1 : ¬256 ≤ a := by omega
  simp [h, h1]

theorem trace_rests : ∀ n, trace (n + 4) = trace 4
  | 0 => rfl
  | n + 1 => by
    have h : n % 4 < 4 := Nat.mod_lt _ (by decide)
    rw [show trace (n + 1 + 4) = _ from rfl, trace, trace_rests n]
    simp only [cycle, Nat.add_mod_right]
    match n % 4, h with
    | 0, _ => rfl
    | 1, _ => rfl
    | 2, _ => rfl
    | 3, _ => rfl

theorem test_meets_FairExecutionsMakeProgress :
    Execution trace cycle ∧ Fair trace cycle ∧ (∀ n, cycle n ≠ .reset) ∧ (trace 0).Inv ∧
    (∀ a < 2 ^ (trace 0).cfg.addrW, (trace 0).admits a = true) ∧ (trace 0).tx.pkt = some (.app 1) ∧
    (trace 0).link.rxData = some 0x41 := by
  have fg : ∀ n, (trace n).fg = small.fg
    | 0 | 1 | 2 | 3 => rfl
    | n + 4 => by rw [trace_rests]; rfl
  refine ⟨fun n => ?_, ⟨fun n _ => ⟨4 * n + 3, by omega, ?_⟩, fun n => ⟨n + 4, by omega, .inl ?_⟩, fun n h => ?_⟩,
    fun n => ?_, by decide, small_admits, by decide, by decide⟩
  · have : ∃ t, (trace n).turn (cycle n) = .next t := by
      unfold cycle; split <;> exact ⟨_, rfl⟩
    obtain ⟨t, h⟩ := this
    rw [trace, h]
  · simp [cycle]
  · rw [trace_rests]; rfl
  · rw [fg] at h; exact absurd h (by decide)
  · unfold cycle; split <;> decide

end Sys2Proof.Tests
end

section
/-! PROOFS. The state a launch starts from (R51, R350, R366) satisfies every part of the invariant: every slot is a reset
slot, FREEQ lists each driver slot once, and nothing is in flight. -/

namespace Sys2Proof.Machine

/-! ### The tables of a launch -/

@[simp] theorem State.launch_cfg (p : Params) (ram : List Region) :
    (State.launch p ram).cfg = { drvCap := p.drvCap, addrW := p.addrW, regBase := p.regBase, ram := ram } := rfl

@[simp] theorem State.launch_nDrv (p : Params) (ram : List Region) : (State.launch p ram).nDrv = p.nDrv :=
  List.length_replicate

@[simp] theorem State.launch_nApp (p : Params) (ram : List Region) : (State.launch p ram).nApp = p.nApp := by
  simp [State.nApp, State.launch]

@[simp] theorem State.launch_params (p : Params) (ram : List Region) : (State.launch p ram).params = p := by
  simp [State.params]

/-- Every driver slot of a launch is a reset slot (R51). -/
theorem State.eq_reset_of_mem_launch_drv {p : Params} {ram : List Region} {d : DrvPkt}
    (h : d ∈ (State.launch p ram).drv) : d = DrvPkt.reset :=
  List.eq_of_mem_replicate h

/-- Every application slot of a launch is a reset slot (R51). -/
theorem State.eq_reset_of_mem_launch_app {p : Params} {ram : List Region} {a : AppPkt}
    (h : a ∈ (State.launch p ram).app) : ∃ g, a = AppPkt.reset g := by
  obtain ⟨g, -, rfl⟩ := List.mem_map.1 h
  exact ⟨g, rfl⟩

/-- The index column of a launch's application table (R28). -/
theorem State.launch_app_index (p : Params) (ram : List Region) :
    (State.launch p ram).app.map (fun a => a.index) = (List.range p.nApp).map (BitVec.ofNat 8) :=
  List.map_map

/-- A reset application slot is owned by the application (R29, R51). -/
theorem AppPkt.reset_isAppOwned (g : Nat) : isAppOwned (AppPkt.reset g).flags = true := by
  change isAppOwned 0x80 = true
  decide

/-! ### The places of a launch -/

/-- Of the places of R39 only FREEQ holds driver slots, and it holds all of them (R51). -/
@[simp] theorem State.launch_drvPlaces (p : Params) (ram : List Region) :
    (State.launch p ram).drvPlaces = List.range p.nDrv := by
  simp [State.drvPlaces, State.launch]

@[simp] theorem State.launch_appPlaces (p : Params) (ram : List Region) : (State.launch p ram).appPlaces = [] := rfl

/-! ### The parts of the invariant -/

theorem State.launch_fixed {p : Params} (hp : p.Legal) (ram : List Region) : (State.launch p ram).Fixed := by
  refine ⟨by rwa [State.launch_params], by rw [State.launch_app_index, State.launch_nApp], fun a ha => ?_, ?_, ?_⟩
  · obtain ⟨g, rfl⟩ := State.eq_reset_of_mem_launch_app ha
    exact Nat.two_pow_pos _
  · exact Nat.two_pow_pos _
  · change (0 : Word).extractLsb' 24 8 = 0
    decide

theorem State.launch_located (p : Params) (ram : List Region) : (State.launch p ram).Located := by
  refine ⟨?_, fun i hi => ?_, List.nodup_nil, fun h hh => absurd hh List.not_mem_nil⟩
  · rw [State.launch_drvPlaces]; exact List.nodup_range
  · rw [State.launch_drvPlaces, List.mem_range] at hi
    rwa [State.launch_nDrv]

theorem State.launch_owned (p : Params) (ram : List Region) : (State.launch p ram).Owned := by
  refine ⟨fun a ha => ?_, fun d hd => ?_, fun h => nomatch h⟩
  · obtain ⟨g, rfl⟩ := State.eq_reset_of_mem_launch_app ha
    exact AppPkt.reset_isAppOwned g
  · rw [State.eq_reset_of_mem_launch_drv hd]; decide

theorem State.launch_bounded (p : Params) (ram : List Region) : (State.launch p ram).Bounded := by
  refine ⟨fun d hd => ?_, fun a ha => ?_, fun _ hi => absurd hi List.not_mem_nil⟩
  · rw [State.eq_reset_of_mem_launch_drv hd]; exact Nat.zero_le _
  · obtain ⟨g, rfl⟩ := State.eq_reset_of_mem_launch_app ha
    exact Nat.zero_le _

/-- TXE is idle and TXQ empty, so nothing is required of any packet. -/
theorem State.launch_txOk (p : Params) (ram : List Region) : (State.launch p ram).TxOk :=
  ⟨⟨fun _ => rfl, fun _ => rfl⟩, fun h => h.elim (absurd rfl) (absurd rfl), fun _ hq => absurd hq List.not_mem_nil,
    fun _ hq => absurd hq List.not_mem_nil⟩

/-- RXE awaits a START with no packet bound, and RXQ is empty. -/
theorem State.launch_rxOk (p : Params) (ram : List Region) : (State.launch p ram).RxOk :=
  ⟨⟨fun _ => rfl, fun _ => .inl rfl⟩, fun _ hq => absurd hq List.not_mem_nil, fun _ hi => absurd hi List.not_mem_nil⟩

theorem State.launch_memOk (p : Params) (ram : List Region) : (State.launch p ram).MemOk := by
  refine ⟨List.Pairwise.nil, fun c hc => absurd hc List.not_mem_nil, fun d hd => ?_⟩
  rw [State.eq_reset_of_mem_launch_drv hd]
  exact ⟨List.Pairwise.nil, fun c hc => absurd hc List.not_mem_nil, fun k hk => absurd hk (Nat.not_lt_zero k)⟩

/-- A legal launch starts in the invariant (R6, R350, R366). -/
theorem State.launch_inv {p : Params} (hp : p.Legal) (ram : List Region) : (State.launch p ram).Inv :=
  ⟨State.launch_fixed hp ram, State.launch_located p ram, State.launch_owned p ram, State.launch_bounded p ram,
    State.launch_txOk p ram, State.launch_rxOk p ram, State.launch_memOk p ram⟩

theorem Params.default_legal : Params.default.Legal := by decide

/-- Settles O55: every part of the invariant holds of a legal launch, and the reset state is the launch at the default
parameters. -/
theorem launchSatisfiesTheInvariant : Obligations.LaunchSatisfiesTheInvariant :=
  ⟨State.launch_inv Params.default_legal _, fun _ ram hp => State.launch_inv hp ram⟩

end Sys2Proof.Machine
end

section
/-! PROOFS. The invariant in the form a step is proved to keep it in: one named fact per field, driver and application
packets in one list of places. A step takes packets out of their places (`take_*`), writes the records of packets that
stand in none (`setDrv`, `setApp`) and puts packets into places (`put_*`); each of these keeps the invariant. -/

namespace Sys2Proof.Machine

/-! ### The places of both kinds of packet in one list (R39) -/

/-- Every packet id, once for each place of R39 it stands in. -/
def State.places (s : State) : List PktId :=
  s.freeq.map .drv ++ s.bld.pkt.toList.map .drv ++ s.txq ++ s.tx.pkt.toList ++ s.rx.pkt.toList ++ s.rxq.map .drv

/-- The id names a slot of its table. -/
def State.HasSlot (s : State) : PktId → Prop
  | .drv i => i < s.nDrv
  | .app h => h < s.nApp

/-- These ids can stand in the places of `s`: none twice, each of a slot. -/
def State.Placeable (s : State) (l : List PktId) : Prop := l.Nodup ∧ ∀ p ∈ l, s.HasSlot p

/-- The packet exists and stands in no place: a consumer-held driver packet, an application slot that is not busy. -/
def State.Loose (s : State) (p : PktId) : Prop := s.HasSlot p ∧ p ∉ s.places

theorem State.Placeable.nodup {s : State} {l : List PktId} (h : s.Placeable l) : l.Nodup := h.1
theorem State.Placeable.slots {s : State} {l : List PktId} (h : s.Placeable l) : ∀ p ∈ l, s.HasSlot p := h.2
theorem State.Loose.slot {s : State} {p : PktId} (h : s.Loose p) : s.HasSlot p := h.1
theorem State.Loose.out {s : State} {p : PktId} (h : s.Loose p) : p ∉ s.places := h.2

theorem State.Placeable.perm {s : State} {l m : List PktId} (h : s.Placeable l) (p : l.Perm m) : s.Placeable m :=
  ⟨p.nodup_iff.1 h.nodup, fun q hq => h.slots q (p.mem_iff.2 hq)⟩

theorem State.placeable_cons {s : State} {p : PktId} :
    s.Placeable (p :: s.places) ↔ s.Placeable s.places ∧ s.Loose p := by
  constructor
  · rintro ⟨hn, hs⟩
    obtain ⟨hout, hn⟩ := List.nodup_cons.1 hn
    obtain ⟨hslot, hs⟩ := List.forall_mem_cons.1 hs
    exact ⟨⟨hn, hs⟩, hslot, hout⟩
  · rintro ⟨⟨hn, hs⟩, hslot, hout⟩
    exact ⟨List.nodup_cons.2 ⟨hout, hn⟩, List.forall_mem_cons.2 ⟨hslot, hs⟩⟩

@[simp] theorem PktId.drvSlot_drv (i : Nat) : (PktId.drv i).drvSlot = some i := rfl
@[simp] theorem PktId.drvSlot_app (h : Nat) : (PktId.app h).drvSlot = none := rfl
@[simp] theorem PktId.appSlot_drv (i : Nat) : (PktId.drv i).appSlot = none := rfl
@[simp] theorem PktId.appSlot_app (h : Nat) : (PktId.app h).appSlot = some h := rfl

@[simp] theorem PktId.drvSlot_comp_drv : PktId.drvSlot ∘ PktId.drv = some := rfl
@[simp] theorem PktId.appSlot_comp_drv : PktId.appSlot ∘ PktId.drv = fun _ => none := rfl

theorem count_filterMap_drvSlot (l : List PktId) (i : Nat) :
    (l.filterMap PktId.drvSlot).count i = l.count (.drv i) := by
  induction l with
  | nil => rfl
  | cons p rest ih => cases p <;> simp [List.filterMap_cons, List.count_cons, ih]

theorem count_filterMap_appSlot (l : List PktId) (h : Nat) :
    (l.filterMap PktId.appSlot).count h = l.count (.app h) := by
  induction l with
  | nil => rfl
  | cons p rest ih => cases p <;> simp [List.filterMap_cons, List.count_cons, ih]

theorem filterMap_toList (f : PktId → Option Nat) (o : Option PktId) : o.toList.filterMap f = (o.bind f).toList := by
  cases o with
  | none => rfl
  | some p => cases h : f p <;> simp [h]

theorem State.filterMap_drvSlot_places (s : State) : s.places.filterMap PktId.drvSlot = s.drvPlaces := by
  simp [State.places, State.drvPlaces, List.filterMap_append, filterMap_toList]

theorem State.filterMap_appSlot_places (s : State) : s.places.filterMap PktId.appSlot = s.appPlaces := by
  simp [State.places, State.appPlaces, List.filterMap_append, filterMap_toList]

theorem State.drv_mem_places {s : State} {i : Nat} : .drv i ∈ s.places ↔ i ∈ s.drvPlaces := by
  rw [← s.filterMap_drvSlot_places, mem_filterMap_drvSlot]

theorem State.app_mem_places {s : State} {h : Nat} : .app h ∈ s.places ↔ h ∈ s.appPlaces := by
  rw [← s.filterMap_appSlot_places, mem_filterMap_appSlot]

theorem State.nodup_places {s : State} : s.places.Nodup ↔ s.drvPlaces.Nodup ∧ s.appPlaces.Nodup := by
  simp only [List.nodup_iff_count_le_one, ← s.filterMap_drvSlot_places, ← s.filterMap_appSlot_places,
    count_filterMap_drvSlot, count_filterMap_appSlot]
  exact ⟨fun h => ⟨fun _ => h _, fun _ => h _⟩, fun ⟨hd, ha⟩ p => by cases p with
    | drv i => exact hd i
    | app g => exact ha g⟩

/-- The location invariant (R39) in terms of the one list. -/
theorem State.located_iff {s : State} : s.Located ↔ s.Placeable s.places := by
  constructor
  · rintro ⟨hdn, hds, han, has⟩
    refine ⟨State.nodup_places.2 ⟨hdn, han⟩, fun p hp => ?_⟩
    cases p with
    | drv i => exact hds i (State.drv_mem_places.1 hp)
    | app g => exact has g (State.app_mem_places.1 hp)
  · rintro ⟨hn, hs⟩
    obtain ⟨hdn, han⟩ := State.nodup_places.1 hn
    exact ⟨hdn, fun i hi => hs (.drv i) (State.drv_mem_places.2 hi), han,
      fun g hg => hs (.app g) (State.app_mem_places.2 hg)⟩

/-- A consumer-held slot stands in no place (R146). -/
theorem State.loose_of_held {s : State} {i : Nat} (h : s.held i = true) : s.Loose (.drv i) := by
  obtain ⟨hi, hout⟩ := State.held_iff_not_mem_drvPlaces.1 h
  exact ⟨hi, fun hp => hout (State.drv_mem_places.1 hp)⟩

/-- A slot that is not busy stands in no place (R147). -/
theorem State.loose_of_not_busy {s : State} {h : Nat} (hh : h < s.nApp) (hb : s.busy h = false) : s.Loose (.app h) :=
  ⟨hh, fun hp => by simp [State.busy_iff_mem_appPlaces.2 (State.app_mem_places.1 hp)] at hb⟩

/-! ### The invariant, one named fact per field -/

/-- What holds of every driver record, wherever the packet stands (R29, R121, R70, R71). -/
structure DrvPkt.Ok (cap : Nat) (p : DrvPkt) : Prop where
  owned   : isAppOwned p.flags = false
  bound   : p.length.toNat ≤ cap
  wf      : p.buf.wf
  offsets : ∀ c ∈ p.buf, c.1 < cap
  written : ∀ k < p.length.toNat, (p.buf.find k).isSome = true

/-- What holds of every application record, wherever the packet stands (R29, R121, R28). -/
structure AppPkt.Ok (addrW : Nat) (p : AppPkt) : Prop where
  owned  : isAppOwned p.flags = true
  bound  : p.length.toNat ≤ p.capacity.toNat
  buffer : p.buffer.toNat < 2 ^ addrW

/-- `State.Inv` (`State.inv_iff`) with its facts named. -/
structure State.Ok (s : State) : Prop where
  legal      : s.params.Legal
  index      : s.app.map (fun p => p.index) = (List.range s.nApp).map (fun h => BitVec.ofNat 8 h)
  argAddr    : s.regs.argAddr.toNat < 2 ^ s.cfg.addrW
  result     : s.regs.result.extractLsb' 24 8 = 0
  placed     : s.Placeable s.places
  drvs       : ∀ p ∈ s.drv, p.Ok s.cfg.drvCap
  apps       : ∀ p ∈ s.app, p.Ok s.cfg.addrW
  building   : ∀ i, s.bld.pkt = some i → (s.drvPkt i).length.toNat < s.cfg.drvCap ∧ (s.drvPkt i).flags &&& 0xF0 = 0
  txUnbound  : s.tx.state = .idle ↔ s.tx.pkt = none
  txie       : s.tx.state ≠ .idle ∨ s.txq ≠ [] → s.txie = true
  sending    : ∀ p, s.tx.pkt = some p → s.txPhase p = true ∧ s.flagsOf p &&& 0x70 = 0x10
  queued     : ∀ p ∈ s.txq, s.flagsOf p &&& 0x70 = 0x10
  rxUnbound  : s.rx.state = .awaitStart ∨ s.rx.state = .awaitFlags ∨ s.rx.state = .awaitIndex ↔ s.rx.pkt = none
  awaitIndex : s.rx.state = .awaitIndex → isAppOwned s.rx.flags = true ∧ s.rx.flags &&& 0x70 = 0x50
  receiving  : ∀ p, s.rx.pkt = some p → s.rxPhase p = true ∧ s.flagsOf p &&& 0x70 = 0x50
  received   : ∀ i ∈ s.rxq, (s.drvPkt i).flags &&& 0x70 = 0x60
  memWf      : s.mem.wf
  memAdmits  : ∀ c ∈ s.mem, s.admits c.1 = true

theorem State.ok_of_inv {s : State} (h : s.Inv) : s.Ok := by
  obtain ⟨⟨legal, index, buffers, argAddr, result⟩, located, ⟨appOwned, drvOwned, awaitIndex⟩,
    ⟨drvBound, appBound, building⟩, ⟨txUnbound, txie, sending, queued⟩, ⟨rxUnbound, receiving, received⟩,
    memWf, memAdmits, bufs⟩ := h
  exact {
    legal, index, argAddr, result, txUnbound, txie, rxUnbound, awaitIndex, received, memWf, memAdmits
    placed := State.located_iff.1 located
    drvs := fun p hp => ⟨drvOwned p hp, drvBound p hp, (bufs p hp).1, (bufs p hp).2.1, (bufs p hp).2.2⟩
    apps := fun p hp => ⟨appOwned p hp, appBound p hp, buffers p hp⟩
    building := fun i hi => building i (Option.mem_toList.2 hi)
    sending := fun p hp =>
      ⟨sending p (Option.mem_toList.2 hp), queued p (List.mem_append_right _ (Option.mem_toList.2 hp))⟩
    queued := fun p hp => queued p (List.mem_append_left _ hp)
    receiving := fun p hp => receiving p (Option.mem_toList.2 hp) }

theorem State.Ok.inv {s : State} (h : s.Ok) : s.Inv := by
  refine ⟨⟨h.legal, h.index, fun p hp => (h.apps p hp).buffer, h.argAddr, h.result⟩, State.located_iff.2 h.placed,
    ⟨fun p hp => (h.apps p hp).owned, fun p hp => (h.drvs p hp).owned, h.awaitIndex⟩,
    ⟨fun p hp => (h.drvs p hp).bound, fun p hp => (h.apps p hp).bound,
      fun i hi => h.building i (Option.mem_toList.1 hi)⟩,
    ⟨h.txUnbound, h.txie, fun p hp => (h.sending p (Option.mem_toList.1 hp)).1, fun p hp => ?_⟩,
    ⟨h.rxUnbound, fun p hp => h.receiving p (Option.mem_toList.1 hp), h.received⟩,
    h.memWf, h.memAdmits, fun p hp => ⟨(h.drvs p hp).wf, (h.drvs p hp).offsets, (h.drvs p hp).written⟩⟩
  rcases List.mem_append.1 hp with hp | hp
  · exact h.queued p hp
  · exact (h.sending p (Option.mem_toList.1 hp)).2

theorem State.inv_iff {s : State} : s.Inv ↔ s.Ok := ⟨State.ok_of_inv, State.Ok.inv⟩

end Sys2Proof.Machine
end

section
/-! PROOFS. Places: taking a packet out of its place and putting one into a place keep the invariant. -/

namespace Sys2Proof.Machine

/-! ### Taking a packet out of its place -/

theorem State.count_places (s : State) (q : PktId) :
    s.places.count q = (s.freeq.map .drv).count q + (s.bld.pkt.toList.map .drv).count q + s.txq.count q +
      s.tx.pkt.toList.count q + s.rx.pkt.toList.count q + (s.rxq.map .drv).count q := by
  simp only [State.places, List.count_append]

/-- When a packet leaves its place, the places stay placeable and the packet stands in none. -/
theorem State.placeable_take {s t : State} {p : PktId} (h : s.Placeable s.places)
    (slots : ∀ q, s.HasSlot q → t.HasSlot q) (move : ∀ q, s.places.count q = (p :: t.places).count q) :
    t.Placeable t.places ∧ t.Loose p :=
  have hp := h.perm (List.perm_iff_count.2 move)
  State.placeable_cons.1 ⟨hp.nodup, fun q hq => slots q (hp.slots q hq)⟩

/-- When a packet that stands in no place enters one, the places stay placeable. -/
theorem State.placeable_put {s t : State} {p : PktId} (h : s.Placeable s.places) (loose : s.Loose p)
    (slots : ∀ q, s.HasSlot q → t.HasSlot q) (move : ∀ q, t.places.count q = (p :: s.places).count q) :
    t.Placeable t.places :=
  have hp := (State.placeable_cons.2 ⟨h, loose⟩).perm (List.perm_iff_count.2 move).symm
  ⟨hp.nodup, fun q hq => slots q (hp.slots q hq)⟩

theorem State.Ok.take_free {s : State} {i : Nat} {rest : List Nat} (h : s.Ok) (hq : s.freeq = i :: rest) :
    ({ s with freeq := rest } : State).Ok ∧ ({ s with freeq := rest } : State).Loose (.drv i) := by
  obtain ⟨placed, loose⟩ := State.placeable_take (p := .drv i) (t := { s with freeq := rest }) h.placed
    (fun _ => id) (fun q => by simp [State.count_places, hq, List.count_cons]; omega)
  exact ⟨{ h with placed }, loose⟩

theorem State.Ok.take_build {s : State} {i : Nat} (h : s.Ok) (hb : s.bld.pkt = some i) (b : Builder)
    (hp : b.pkt = none) :
    ({ s with bld := b } : State).Ok ∧ ({ s with bld := b } : State).Loose (.drv i) := by
  obtain ⟨placed, loose⟩ := State.placeable_take (p := .drv i) (t := { s with bld := b }) h.placed
    (fun _ => id) (fun q => by
      simp [State.count_places, hb, hp, List.count_cons]; omega)
  exact ⟨{ h with placed, building := fun j hj => by simp [hp] at hj }, loose⟩

theorem State.Ok.take_txq {s : State} {p : PktId} {rest : List PktId} (h : s.Ok) (hq : s.txq = p :: rest) :
    ({ s with txq := rest } : State).Ok ∧ ({ s with txq := rest } : State).Loose p := by
  obtain ⟨placed, loose⟩ := State.placeable_take (p := p) (t := { s with txq := rest }) h.placed
    (fun _ => id) (fun q => by
      simp [State.count_places, hq, List.count_cons]; omega)
  have queued := h.queued
  have txie := h.txie
  simp only [hq, List.forall_mem_cons] at queued
  exact ⟨{ h with placed, queued := queued.2, txie := fun _ => txie (.inr (by simp [hq])) }, loose⟩

theorem State.Ok.take_tx {s : State} {p : PktId} (h : s.Ok) (hp : s.tx.pkt = some p) :
    ({ s with tx := { s.tx with pkt := none, state := .idle } } : State).Ok ∧
      ({ s with tx := { s.tx with pkt := none, state := .idle } } : State).Loose p := by
  obtain ⟨placed, loose⟩ := State.placeable_take (p := p)
    (t := { s with tx := { s.tx with pkt := none, state := .idle } }) h.placed
    (fun _ => id) (fun q => by
      simp [State.count_places, hp, List.count_cons]; omega)
  exact ⟨{ h with
    placed
    txUnbound := by simp
    txie := fun ht => h.txie (ht.imp (absurd rfl) id)
    sending := fun q hq => by cases hq }, loose⟩

theorem State.Ok.take_rx {s : State} {p : PktId} (h : s.Ok) (hp : s.rx.pkt = some p) :
    ({ s with rx := { s.rx with pkt := none, state := .awaitStart } } : State).Ok ∧
      ({ s with rx := { s.rx with pkt := none, state := .awaitStart } } : State).Loose p := by
  obtain ⟨placed, loose⟩ := State.placeable_take (p := p)
    (t := { s with rx := { s.rx with pkt := none, state := .awaitStart } }) h.placed
    (fun _ => id) (fun q => by
      simp [State.count_places, hp, List.count_cons]; omega)
  exact ⟨{ h with
    placed
    rxUnbound := by simp
    awaitIndex := fun ha => by cases ha
    receiving := fun q hq => by cases hq }, loose⟩

theorem State.Ok.take_rxq {s : State} {i : Nat} {rest : List Nat} (h : s.Ok) (hq : s.rxq = i :: rest) :
    ({ s with rxq := rest } : State).Ok := by
  obtain ⟨placed, -⟩ := State.placeable_take (p := .drv i) (t := { s with rxq := rest }) h.placed
    (fun _ => id) (fun q => by
      simp [State.count_places, hq, List.count_cons]; omega)
  have received := h.received
  simp only [hq, List.forall_mem_cons] at received
  exact { h with placed, received := received.2 }

/-! ### Putting a packet into a place -/

theorem State.Ok.put_free {s : State} {i : Nat} (h : s.Ok) (loose : s.Loose (.drv i)) : (s.enqueueFree i).Ok :=
  { h with
    placed := State.placeable_put h.placed loose (fun _ => id) (fun q => by
      simp [State.count_places, List.count_cons]; omega) }

theorem State.Ok.put_build {s : State} {i : Nat} {b : Builder} (h : s.Ok) (loose : s.Loose (.drv i))
    (hs : s.bld.pkt = none) (hb : b.pkt = some i) (hlen : (s.drvPkt i).length.toNat < s.cfg.drvCap)
    (hflags : (s.drvPkt i).flags &&& 0xF0 = 0) : ({ s with bld := b } : State).Ok :=
  { h with
    placed := State.placeable_put h.placed loose (fun _ => id) (fun q => by
      simp [State.count_places, hs, hb, List.count_cons]; omega)
    building := fun j hj => by
      obtain rfl : i = j := by simpa [hb] using hj
      exact ⟨hlen, hflags⟩ }

theorem State.Ok.put_txq {s : State} {p : PktId} (h : s.Ok) (loose : s.Loose p)
    (hflags : s.flagsOf p &&& 0x70 = 0x10) : (s.enqueueTx p).Ok :=
  { h with
    placed := State.placeable_put h.placed loose (fun _ => id) (fun q => by
      simp [State.count_places, List.count_cons]; omega)
    txie := fun _ => rfl
    queued := fun q hq => by
      rcases List.mem_append.1 hq with hq | hq
      · exact h.queued q hq
      · rw [List.mem_singleton.1 hq]; exact hflags }

theorem State.Ok.put_tx {s : State} {p : PktId} {x : TxEngine} (h : s.Ok) (loose : s.Loose p) (hs : s.tx.pkt = none)
    (hx : x.pkt = some p) (hphase : ({ s with tx := x } : State).txPhase p = true) (htxie : s.txie = true)
    (hflags : s.flagsOf p &&& 0x70 = 0x10) : ({ s with tx := x } : State).Ok :=
  { h with
    placed := State.placeable_put h.placed loose (fun _ => id) (fun q => by
      simp [State.count_places, hs, hx, List.count_cons]; omega)
    txUnbound := by
      have : x.state ≠ .idle := fun hi => by simp [State.txPhase, hi] at hphase
      simp [this, hx]
    txie := fun _ => htxie
    sending := fun q hq => by
      obtain rfl : p = q := by simpa [hx] using hq
      exact ⟨hphase, hflags⟩ }

theorem State.Ok.put_rx {s : State} {p : PktId} {x : RxEngine} (h : s.Ok) (loose : s.Loose p) (hs : s.rx.pkt = none)
    (hx : x.pkt = some p) (hphase : ({ s with rx := x } : State).rxPhase p = true)
    (hflags : s.flagsOf p &&& 0x70 = 0x50) : ({ s with rx := x } : State).Ok :=
  { h with
    placed := State.placeable_put h.placed loose (fun _ => id) (fun q => by
      simp [State.count_places, hs, hx, List.count_cons]; omega)
    rxUnbound := by
      have hne : ¬(x.state = .awaitStart ∨ x.state = .awaitFlags ∨ x.state = .awaitIndex) := by
        rintro (hi | hi | hi) <;> simp [State.rxPhase, hi] at hphase
      simp [hne, hx]
    awaitIndex := fun hi => by simp [State.rxPhase, show x.state = .awaitIndex from hi] at hphase
    receiving := fun q hq => by
      obtain rfl : p = q := by simpa [hx] using hq
      exact ⟨hphase, hflags⟩ }

theorem State.Ok.put_rxq {s : State} {i : Nat} (h : s.Ok) (loose : s.Loose (.drv i))
    (hflags : (s.drvPkt i).flags &&& 0x70 = 0x60) : (s.enqueueRx i).Ok :=
  { h with
    placed := State.placeable_put h.placed loose (fun _ => id) (fun q => by
      simp [State.count_places, List.count_cons]; omega)
    received := fun j hj => by
      rcases List.mem_append.1 hj with hj | hj
      · exact h.received j hj
      · rw [List.mem_singleton.1 hj]; exact hflags }

end Sys2Proof.Machine
end

section
/-! PROOFS. Records: writing the record of a packet that stands in no place keeps the invariant, since it speaks of the
records of placed packets and of what holds of every record. -/

namespace Sys2Proof.Machine

/-! ### Writing the record of a packet that stands in no place -/

/-- The packet's record is the same in both states. -/
def State.SameRecord (s t : State) : PktId → Prop
  | .drv i => t.drvPkt i = s.drvPkt i
  | .app h => t.appPkt h = s.appPkt h

theorem State.SameRecord.flagsOf {s t : State} {p : PktId} (h : s.SameRecord t p) : t.flagsOf p = s.flagsOf p := by
  cases p <;> simp_all [State.SameRecord, State.flagsOf]

theorem State.SameRecord.lengthOf {s t : State} {p : PktId} (h : s.SameRecord t p) : t.lengthOf p = s.lengthOf p := by
  cases p <;> simp_all [State.SameRecord, State.lengthOf]

theorem State.SameRecord.capOf {s t : State} {p : PktId} (h : s.SameRecord t p) (hcfg : t.cfg = s.cfg) :
    t.capOf p = s.capOf p := by
  cases p <;> simp_all [State.SameRecord, State.capOf]

theorem State.SameRecord.txPhase {s t : State} {p : PktId} (h : s.SameRecord t p) (htx : t.tx = s.tx) :
    t.txPhase p = s.txPhase p := by
  simp only [State.txPhase, htx, h.lengthOf]

theorem State.SameRecord.rxPhase {s t : State} {p : PktId} (h : s.SameRecord t p) (hrx : t.rx = s.rx)
    (hcfg : t.cfg = s.cfg) : t.rxPhase p = s.rxPhase p := by
  simp only [State.rxPhase, hrx, h.lengthOf, h.capOf hcfg]

theorem State.sameRecord_setDrv (s : State) {i : Nat} {p : PktId} (h : p ≠ .drv i) (d : DrvPkt) :
    s.SameRecord (s.setDrv i d) p := by
  cases p with
  | drv j => exact State.drvPkt_setDrv_other s (fun e => h (congrArg _ e)) d
  | app g => rfl

theorem State.sameRecord_setApp (s : State) {h : Nat} {p : PktId} (hp : p ≠ .app h) (a : AppPkt) :
    s.SameRecord (s.setApp h a) p := by
  cases p with
  | drv j => rfl
  | app g => exact State.appPkt_setApp_other s (fun e => hp (congrArg _ e)) a

/-- New tables keep the invariant when each record is as every record has to be, and those of placed packets are the
old ones. -/
theorem State.Ok.with_tables {s : State} {d : List DrvPkt} {a : List AppPkt} (h : s.Ok) (hd : d.length = s.drv.length)
    (ha : a.map (fun p => p.index) = s.app.map (fun p => p.index)) (drvs : ∀ p ∈ d, p.Ok s.cfg.drvCap)
    (apps : ∀ p ∈ a, p.Ok s.cfg.addrW) (same : ∀ q ∈ s.places, s.SameRecord { s with drv := d, app := a } q) :
    ({ s with drv := d, app := a } : State).Ok :=
  have hlen : a.length = s.app.length := by simpa using congrArg List.length ha
  { h with
    drvs, apps
    legal := by simpa [State.params, State.nDrv, State.nApp, hd, hlen] using h.legal
    index := by simpa [State.nApp, ha, hlen] using h.index
    placed := ⟨h.placed.nodup, fun q hq => by
      have := h.placed.slots q hq
      cases q <;> simpa [State.HasSlot, State.nDrv, State.nApp, hd, hlen] using this⟩
    building := fun i hi => by
      have same := same (.drv i) (by simp [State.places, show s.bld.pkt = some i from hi])
      rw [show State.drvPkt { s with drv := d, app := a } i = s.drvPkt i from same]
      exact h.building i hi
    sending := fun p hp => by
      have same := same p (by simp [State.places, show s.tx.pkt = some p from hp])
      rw [same.txPhase rfl, same.flagsOf]
      exact h.sending p hp
    queued := fun p hp => by
      have same := same p (by simp [State.places, show p ∈ s.txq from hp])
      rw [same.flagsOf]
      exact h.queued p hp
    receiving := fun p hp => by
      have same := same p (by simp [State.places, show s.rx.pkt = some p from hp])
      rw [same.rxPhase rfl rfl, same.flagsOf]
      exact h.receiving p hp
    received := fun i hi => by
      have same := same (.drv i) (by simp [State.places, show i ∈ s.rxq from hi])
      rw [show State.drvPkt { s with drv := d, app := a } i = s.drvPkt i from same]
      exact h.received i hi }

theorem State.Ok.setDrv {s : State} {i : Nat} {d : DrvPkt} (h : s.Ok) (loose : s.Loose (.drv i))
    (hd : d.Ok s.cfg.drvCap) : (s.setDrv i d).Ok :=
  h.with_tables List.length_set rfl
    (fun p hp => (List.mem_or_eq_of_mem_set hp).elim (h.drvs p) (fun e => e ▸ hd)) h.apps
    (fun _ hq => s.sameRecord_setDrv (fun e => loose.out (e ▸ hq)) d)

theorem State.Ok.setApp {s : State} {g : Nat} {a : AppPkt} (h : s.Ok) (loose : s.Loose (.app g))
    (ha : a.Ok s.cfg.addrW) (hindex : a.index = (s.appPkt g).index) : (s.setApp g a).Ok := by
  refine h.with_tables rfl ?_ h.drvs
    (fun p hp => (List.mem_or_eq_of_mem_set hp).elim (h.apps p) (fun e => e ▸ ha))
    (fun _ hq => s.sameRecord_setApp (fun e => loose.out (e ▸ hq)) a)
  have hg : g < s.app.length := loose.slot
  have hrec : s.appPkt g = s.app[g] := by simp [State.appPkt, hg]
  rw [List.map_set, hindex, hrec]
  exact (congrArg _ (List.getElem_map _).symm).trans (List.set_getElem_self (by simpa using hg))

theorem State.Loose.setDrv {s : State} {i : Nat} {p : PktId} (h : s.Loose p) (d : DrvPkt) : (s.setDrv i d).Loose p :=
  ⟨by cases p <;> simpa [State.HasSlot, State.nApp] using h.slot, h.out⟩

theorem State.Loose.setApp {s : State} {g : Nat} {p : PktId} (h : s.Loose p) (a : AppPkt) : (s.setApp g a).Loose p :=
  ⟨by cases p <;> simpa [State.HasSlot, State.nDrv] using h.slot, h.out⟩

end Sys2Proof.Machine
end

section
/-! PROOFS. Every command keeps the invariant: each is a packet taken, its record written, and the packet put elsewhere,
then a result. -/

namespace Sys2Proof.Machine

/-! ### Flags bytes -/

theorem isAppOwned_completeFlags (f : Byte) : isAppOwned (completeFlags f) = isAppOwned f := by
  simp [isAppOwned, completeFlags, flagDONE, flagREADY]

theorem isAppOwned_finishFlags (last : Bool) (f : Byte) : isAppOwned (finishFlags last f) = isAppOwned f := by
  cases last <;> simp [isAppOwned, finishFlags, flagLAST, flagREADY]

theorem isAppOwned_releaseFlags (f : Byte) : isAppOwned (releaseFlags f) = isAppOwned f := by
  simp [isAppOwned, releaseFlags]

theorem isAppOwned_queueFlags (b : Byte) : isAppOwned (queueFlags b) = true := by
  simp [isAppOwned, queueFlags, flagAPPOWNED]

theorem isAppOwned_recvFlags (b : Byte) : isAppOwned (recvFlags b) = isAppOwned b := by
  simp [isAppOwned, recvFlags, flagFORRX, flagREADY]

theorem isAppOwned_of_open : ∀ f : Byte, f &&& 0xF0 = 0 → isAppOwned f = false := by decide

theorem openFlags_status : ∀ (usage : BitVec 2) (first : Bool), openFlags usage first &&& 0xF0 = 0 := by decide

theorem finishFlags_status : ∀ (last : Bool) (f : Byte), f &&& 0xF0 = 0 → finishFlags last f &&& 0x70 = 0x10 := by
  decide

theorem completeFlags_status : ∀ f : Byte, f &&& 0x70 = 0x50 → completeFlags f &&& 0x70 = 0x60 := by decide

theorem queueFlags_status : ∀ b : Byte, queueFlags b &&& 0x70 = 0x10 := by decide

theorem recvFlags_status : ∀ b : Byte, recvFlags b &&& 0x70 = 0x50 := by decide

/-! ### The records of packets in no place -/

theorem State.Ok.drv {s : State} {i : Nat} (h : s.Ok) (hi : i < s.nDrv) : (s.drvPkt i).Ok s.cfg.drvCap :=
  h.drvs _ (State.drvPkt_mem hi)

theorem State.Ok.app {s : State} {g : Nat} (h : s.Ok) (hg : g < s.nApp) : (s.appPkt g).Ok s.cfg.addrW :=
  h.apps _ (State.appPkt_mem hg)

theorem State.flagsOf_setFlags {s : State} {p : PktId} (h : s.HasSlot p) (f : Byte) :
    (s.setFlags p f).flagsOf p = f := by
  cases p with
  | drv i => exact congrArg DrvPkt.flags (State.drvPkt_setDrv_same h _)
  | app g => exact congrArg AppPkt.flags (State.appPkt_setApp_same h _)

theorem State.flagsOf_setFlagsLength {s : State} {p : PktId} (h : s.HasSlot p) (f : Byte) (n : Half) :
    (s.setFlagsLength p f n).flagsOf p = f := by
  cases p with
  | drv i => exact congrArg DrvPkt.flags (State.drvPkt_setDrv_same h _)
  | app g => exact congrArg AppPkt.flags (State.appPkt_setApp_same h _)

theorem State.lengthOf_setFlagsLength {s : State} {p : PktId} (h : s.HasSlot p) (f : Byte) (n : Half) :
    (s.setFlagsLength p f n).lengthOf p = n := by
  cases p with
  | drv i => exact congrArg DrvPkt.length (State.drvPkt_setDrv_same h _)
  | app g => exact congrArg AppPkt.length (State.appPkt_setApp_same h _)

theorem State.flagsOf_setLength {s : State} {p : PktId} (h : s.HasSlot p) (n : Half) :
    (s.setLength p n).flagsOf p = s.flagsOf p := by
  cases p with
  | drv i => exact (congrArg DrvPkt.flags (State.drvPkt_setDrv_same h _)).trans rfl
  | app g => exact (congrArg AppPkt.flags (State.appPkt_setApp_same h _)).trans rfl

theorem State.lengthOf_setLength {s : State} {p : PktId} (h : s.HasSlot p) (n : Half) :
    (s.setLength p n).lengthOf p = n := by
  cases p with
  | drv i => exact congrArg DrvPkt.length (State.drvPkt_setDrv_same h _)
  | app g => exact congrArg AppPkt.length (State.appPkt_setApp_same h _)

theorem State.capOf_setLength {s : State} {p : PktId} (h : s.HasSlot p) (n : Half) :
    (s.setLength p n).capOf p = s.capOf p := by
  cases p with
  | drv i => rfl
  | app g => exact congrArg (fun a => BitVec.toNat a.capacity) (State.appPkt_setApp_same h _)

theorem State.Loose.setFlags {s : State} {p q : PktId} (h : s.Loose p) (f : Byte) : (s.setFlags q f).Loose p := by
  cases q with
  | drv i => exact h.setDrv _
  | app g => exact h.setApp _

theorem State.Loose.setFlagsLength {s : State} {p q : PktId} (h : s.Loose p) (f : Byte) (n : Half) :
    (s.setFlagsLength q f n).Loose p := by
  cases q with
  | drv i => exact h.setDrv _
  | app g => exact h.setApp _

theorem State.Loose.setLength {s : State} {p q : PktId} (h : s.Loose p) (n : Half) : (s.setLength q n).Loose p := by
  cases q with
  | drv i => exact h.setDrv _
  | app g => exact h.setApp _

/-- New flags with the old ownership bit (R29). -/
theorem State.Ok.setFlags {s : State} {p : PktId} (h : s.Ok) (loose : s.Loose p) {f : Byte}
    (hf : isAppOwned f = isAppOwned (s.flagsOf p)) : (s.setFlags p f).Ok := by
  cases p with
  | drv i =>
    have old := h.drv loose.slot
    exact h.setDrv loose { old with owned := hf.trans old.owned }
  | app g =>
    have old := h.app loose.slot
    exact h.setApp loose { old with owned := hf.trans old.owned } rfl

/-- An emptied packet, with new flags that have the old ownership bit (R29). -/
theorem State.Ok.setFlagsLength_zero {s : State} {p : PktId} (h : s.Ok) (loose : s.Loose p) {f : Byte}
    (hf : isAppOwned f = isAppOwned (s.flagsOf p)) : (s.setFlagsLength p f 0).Ok := by
  cases p with
  | drv i =>
    have old := h.drv loose.slot
    exact h.setDrv loose { old with
      owned := hf.trans old.owned, bound := Nat.zero_le _, written := fun k hk => absurd hk (Nat.not_lt_zero k) }
  | app g =>
    have old := h.app loose.slot
    exact h.setApp loose { old with owned := hf.trans old.owned, bound := Nat.zero_le _ } rfl

/-- A length is below a 16-bit bound when it is below a capacity, so one more does not wrap. -/
theorem toNat_add_one_of_lt {n : Half} {cap : Nat} (h : n.toNat < cap) (hcap : cap ≤ 65535) :
    (n + 1).toNat = n.toNat + 1 := by
  rw [BitVec.toNat_add_of_lt]
  · rfl
  · change n.toNat + 1 < 65536; omega

theorem State.Ok.drvCap_le {s : State} (h : s.Ok) : s.cfg.drvCap ≤ 65535 := h.legal.2.1.2

theorem State.setDrv_setDrv (s : State) (i : Nat) (d e : DrvPkt) : (s.setDrv i d).setDrv i e = s.setDrv i e := by
  simp [State.setDrv]

/-- A byte at the end of a driver packet, which the length then counts (R164, R229). -/
def State.storeDrv (s : State) (i : Nat) (b : Byte) : State :=
  s.setDrv i { s.drvPkt i with
    length := (s.drvPkt i).length + 1, buf := (s.drvPkt i).buf.put (s.drvPkt i).length.toNat b }

theorem State.setLength_setDbuf {s : State} {i : Nat} (h : i < s.nDrv) (b : Byte) :
    (s.setDbuf i (s.drvPkt i).length.toNat b).setLength (.drv i) ((s.drvPkt i).length + 1) = s.storeDrv i b := by
  rw [State.setLength_drv, State.setDbuf, State.drvPkt_setDrv_same h, State.setDrv_setDrv, State.storeDrv]

/-- A store in a driver packet that has room: the byte is written, and the length stays in bounds (R71, R121). -/
theorem State.Ok.storeDrv {s : State} {i : Nat} (h : s.Ok) (loose : s.Loose (.drv i))
    (hlen : (s.drvPkt i).length.toNat < s.cfg.drvCap) (b : Byte) : (s.storeDrv i b).Ok := by
  have old := h.drv loose.slot
  have hn := toNat_add_one_of_lt hlen h.drvCap_le
  refine h.setDrv loose ⟨old.owned, ?_, Memory.wf_put old.wf _ _, fun c hc => ?_, fun k hk => ?_⟩
  · exact hn ▸ hlen
  · rcases Memory.mem_put hc with rfl | hc
    · exact hlen
    · exact old.offsets c hc
  · rw [hn] at hk
    rw [Memory.find_put]
    split
    · rfl
    · exact old.written k (by omega)

/-! ### Results -/

theorem dequeue_eq_none {α : Type} {q : List α} : dequeue q = none ↔ q = [] := by
  cases q <;> simp

theorem dequeue_eq_some {α : Type} {q rest : List α} {a : α} : dequeue q = some (a, rest) ↔ q = a :: rest := by
  cases q <;> simp

theorem State.Ok.putResult {s : State} (h : s.Ok) (st : Status) (val fl : Byte) (len : Half) :
    (s.putResult st val fl len).Ok :=
  { h with result := fieldRSV_fourBytes 0 fl val (statusCode st) }

theorem State.Ok.checkHandle {s body : State} {a : Byte} (h : s.Ok) (hb : a.toNat < s.nApp → body.Ok) :
    (s.checkHandle a body).Ok := by
  by_cases ha : s.nApp ≤ a.toNat
  · rw [State.checkHandle_bad ha]; exact h.putResult ..
  · rw [State.checkHandle_ok (Nat.lt_of_not_le ha)]; exact hb (Nat.lt_of_not_le ha)

theorem State.Ok.checkBusy {s body : State} {a : Byte} (h : s.Ok) (hb : s.busy a.toNat = false → body.Ok) :
    (s.checkBusy a body).Ok := by
  cases ha : s.busy a.toNat with
  | true => rw [State.checkBusy_busy ha]; exact h.putResult ..
  | false => rw [State.checkBusy_free ha]; exact hb ha

theorem State.Ok.checkHeld {s body : State} {a : Byte} (h : s.Ok) (hb : s.held a.toNat = true → body.Ok) :
    (s.checkHeld a body).Ok := by
  cases ha : s.held a.toNat with
  | true => rw [State.checkHeld_held ha]; exact hb ha
  | false => rw [State.checkHeld_not ha]; exact h.putResult ..

/-! ### Application commands -/

theorem State.Ok.queueSlot {s : State} {a flags : Byte} (h : s.Ok) (loose : s.Loose (.app a.toNat)) :
    (s.queueSlot a flags).Ok := by
  have written := h.setApp (a := { s.appPkt a.toNat with
      flags := queueFlags flags, length := s.LEN, capacity := s.LEN, buffer := s.ADDR }) loose
    ⟨isAppOwned_queueFlags flags, Nat.le_refl _, h.argAddr⟩ rfl
  refine (written.put_txq (loose.setApp _) ?_).putResult _ _ _ _
  rw [State.flagsOf, State.appPkt_setApp_same loose.slot]
  exact queueFlags_status flags

theorem State.Ok.armSlot {s : State} {a : Byte} (h : s.Ok) (loose : s.Loose (.app a.toNat)) : (s.armSlot a).Ok :=
  (h.setApp (a := { s.appPkt a.toNat with flags := armedFlags, capacity := s.LEN, buffer := s.ADDR, length := 0 }) loose
    ⟨show isAppOwned armedFlags = true by decide, Nat.zero_le _, h.argAddr⟩ rfl).putResult ..

theorem State.Ok.releaseSlot {s : State} {a : Byte} (h : s.Ok) (loose : s.Loose (.app a.toNat)) :
    (s.releaseSlot a).Ok :=
  (h.setFlags loose (isAppOwned_releaseFlags _)).putResult ..

/-! ### Builder commands -/

/-- The fragment handed over has left the builder and enters TXQ (R162). -/
theorem State.Ok.bldFinish {s : State} {i : Nat} {last : Bool}
    (h : ({ s with bld := { s.bld with pkt := none } } : State).Ok)
    (loose : ({ s with bld := { s.bld with pkt := none } } : State).Loose (.drv i))
    (hf : (s.drvPkt i).flags &&& 0xF0 = 0) : (s.bldFinish last i).Ok := by
  refine (h.setFlags loose (isAppOwned_finishFlags last _)).put_txq (loose.setFlags _) ?_
  rw [State.flagsOf_setFlags loose.slot]
  exact finishFlags_status last _ hf

theorem State.Ok.bldFlush {s : State} (h : s.Ok) : s.bldFlush.Ok := by
  cases hb : s.bld.pkt with
  | none => rwa [State.bldFlush_none hb]
  | some i =>
    rw [State.bldFlush_some hb]
    obtain ⟨taken, loose⟩ := h.take_build hb { s.bld with pkt := none } rfl
    exact taken.bldFinish loose (h.building i hb).2

theorem State.bldFlush_pkt (s : State) : s.bldFlush.bld.pkt = none := by
  cases hb : s.bld.pkt with
  | none => rw [State.bldFlush_none hb, hb]
  | some i => rw [State.bldFlush_some hb]; rfl

theorem State.Ok.bldOpen {s : State} {i : Nat} {f : Byte} (h : s.Ok) (loose : s.Loose (.drv i))
    (hb : s.bld.pkt = none) (hf : f &&& 0xF0 = 0) : (s.bldOpen i f).Ok := by
  have emptied := h.setFlagsLength_zero loose (f := f) ((isAppOwned_of_open f hf).trans (h.drv loose.slot).owned.symm)
  have hrec : (s.setFlagsLength (.drv i) f 0).drvPkt i = _ := State.drvPkt_setDrv_same loose.slot _
  refine emptied.put_build (loose.setFlagsLength f 0) (by simpa using hb) rfl ?_ ?_
  · rw [hrec]; exact h.legal.2.1.1
  · rw [hrec]; exact hf

theorem State.bldStore_eq {s : State} {i : Nat} (h : i < s.nDrv) (b : Byte) : ∃ val fl len,
    s.bldStore i b = State.putResult
      (if ((s.drvPkt i).length + 1).toNat = s.cfg.drvCap then
        State.bldFinish
          { s.storeDrv i b with bld := { s.bld with carry := usageBits (s.drvPkt i).flags, cont := true } } false i
      else s.storeDrv i b) .ok val fl len := by
  rw [← State.setLength_setDbuf h]
  exact ⟨_, _, _, rfl⟩

/-- A byte in the open fragment, which stays open or is handed over full (R164). -/
theorem State.Ok.bldStore {s : State} {i : Nat} (h : s.Ok) (hb : s.bld.pkt = some i) (b : Byte) :
    (s.bldStore i b).Ok := by
  obtain ⟨hlen, hflags⟩ := h.building i hb
  have hi : i < s.nDrv := h.placed.slots (.drv i) (by simp [State.places, hb])
  have hn := toNat_add_one_of_lt hlen h.drvCap_le
  have hrec : (s.storeDrv i b).drvPkt i = _ := State.drvPkt_setDrv_same hi _
  have hstatus : ((s.storeDrv i b).drvPkt i).flags &&& 0xF0 = 0 := by rw [hrec]; exact hflags
  obtain ⟨val, fl, len, eq⟩ := State.bldStore_eq hi b
  rw [eq]
  refine State.Ok.putResult ?_ _ _ _ _
  split
  · obtain ⟨taken, loose⟩ := h.take_build hb ⟨none, usageBits (s.drvPkt i).flags, true⟩ rfl
    exact State.Ok.bldFinish (taken.storeDrv loose hlen b) (loose.setDrv _) hstatus
  · next hroom =>
    obtain ⟨taken, loose⟩ := h.take_build hb { s.bld with pkt := none } rfl
    refine (taken.storeDrv loose hlen b).put_build (b := s.bld) (loose.setDrv _) rfl hb ?_ hstatus
    change ((s.storeDrv i b).drvPkt i).length.toNat < s.cfg.drvCap
    rw [hrec]
    exact Nat.lt_of_le_of_ne (hn ▸ hlen) hroom

theorem State.bldOpen_pkt (s : State) (i : Nat) (f : Byte) : (s.bldOpen i f).bld.pkt = some i := rfl

/-- The head of FREEQ opened as a fragment (R161, R164). -/
theorem State.Ok.openHead {s : State} {i : Nat} {rest : List Nat} {usage : BitVec 2} {first : Bool} (h : s.Ok)
    (hb : s.bld.pkt = none) (hq : s.freeq = i :: rest) :
    (State.bldOpen { s with freeq := rest } i (openFlags usage first)).Ok := by
  obtain ⟨taken, loose⟩ := h.take_free hq
  exact taken.bldOpen loose hb (openFlags_status usage first)

/-- An APPEND stores its byte in the open fragment, or in the one it opens, or is held (R163, R164). -/
theorem State.Ok.append {s : State} (h : s.Ok) (b : Byte) : (s.append b).Ok := by
  unfold State.append
  rcases s.bldLazy_cases with ⟨i, hb, eq⟩ | ⟨i, rest, hb, hq, eq⟩ | ⟨-, -, eq⟩ <;> rw [eq]
  · exact h.bldStore hb b
  · exact (h.openHead hb hq).bldStore (State.bldOpen_pkt _ _ _) b
  · exact h

/-- The invariant says nothing of BLD_CARRY and BLD_CONT. -/
theorem State.Ok.bldControls {s : State} (h : s.Ok) (carry : BitVec 2) (cont : Bool) :
    ({ s with bld := { s.bld with carry := carry, cont := cont } } : State).Ok := { h with }

theorem State.Ok.infer {s : State} (h : s.Ok) (b : Byte) : (s.infer b).Ok := by
  unfold State.infer
  split
  · exact h.bldControls ..
  · exact h

theorem State.Ok.execStartOutgoing {s t : State} {usage : Byte} (h : s.Ok)
    (ht : execStartOutgoing usage s = .next t) : t.Ok := by
  unfold Machine.execStartOutgoing at ht
  extract_lets s1 bld s2 flags at ht
  have h2 : s2.Ok := h.bldFlush.bldControls (usageOperand usage) false
  split at ht <;> cases ht
  · exact h2.putResult ..
  · next hq => exact (h2.openHead s.bldFlush_pkt (dequeue_eq_some.1 hq)).putResult ..

theorem State.Ok.execFlush {s t : State} (h : s.Ok) (ht : execFlush s = .next t) : t.Ok := by
  cases ht
  exact (h.bldFlush.bldControls 0 false).putResult ..

/-! ### Consumer commands -/

theorem State.Ok.execRxCollect {s t : State} (h : s.Ok) (ht : execRxCollect s = .next t) : t.Ok := by
  unfold Machine.execRxCollect at ht
  split at ht <;> cases ht
  · exact h.putResult ..
  · next hq => exact (h.take_rxq (dequeue_eq_some.1 hq)).putResult ..

theorem State.Ok.readHeld {s : State} (h : s.Ok) (i : Byte) : (s.readHeld i).Ok := by
  unfold State.readHeld
  extract_lets p
  split <;> exact h.putResult ..

theorem State.Ok.freeHeld {s : State} {i : Byte} (h : s.Ok) (loose : s.Loose (.drv i.toNat)) : (s.freeHeld i).Ok :=
  have emptied := h.setFlagsLength_zero loose (f := 0x00) (h.drv loose.slot).owned.symm
  (emptied.put_free (loose.setFlagsLength _ _)).putResult ..

/-! ### Every command -/

/-- The invariant says nothing of ACTIVE. -/
theorem State.Ok.setActive {s : State} (h : s.Ok) (b : Bool) : ({ s with active := b } : State).Ok := { h with }

/-- Every command keeps the invariant. -/
theorem State.Ok.exec {s t : State} {i : Instr} (h : s.Ok) (ht : exec i s = .next t) : t.Ok := by
  cases i with
  | nop => cases ht; exact h.putResult ..
  | startOutgoing usage => exact h.execStartOutgoing ht
  | appendByte b => cases ht; exact h.append b
  | appendInfer b => cases ht; exact (h.infer b).append b
  | flush => exact h.execFlush ht
  | queueTx a flags =>
    cases ht
    exact h.checkHandle fun ha => h.checkBusy fun hb => h.queueSlot (State.loose_of_not_busy ha hb)
  | armRx a =>
    cases ht
    exact h.checkHandle fun ha => h.checkBusy fun hb => h.armSlot (State.loose_of_not_busy ha hb)
  | isTxDone a => cases ht; exact h.checkHandle fun _ => h.putResult ..
  | isRxDone a => cases ht; exact h.checkHandle fun _ => h.putResult ..
  | release a =>
    cases ht
    exact h.checkHandle fun ha => h.checkBusy fun hb => h.releaseSlot (State.loose_of_not_busy ha hb)
  | rxCollect => exact h.execRxCollect ht
  | rxReadByte a => cases ht; exact h.checkHeld fun _ => h.readHeld a
  | rxFree a => cases ht; exact h.checkHeld fun ha => h.freeHeld (State.loose_of_held ha)
  | setActive bit => cases ht; exact (h.setActive _).putResult ..
  | queryActive => cases ht; exact h.putResult ..

theorem State.Ok.runCommand {s t : State} {w : Word} (h : s.Ok) (ht : s.runCommand w = .next t) : t.Ok := by
  unfold State.runCommand at ht
  split at ht
  · exact h.exec ht
  · cases ht; exact h.putResult ..

end Sys2Proof.Machine
end

section
/-! PROOFS. Every step of TXE (R190 to R202) and of RXE (R220 to R234) keeps the invariant. -/

namespace Sys2Proof.Machine

/-! ### The transmit engine -/

/-- The invariant says nothing of LINK. -/
theorem State.Ok.emit {s : State} (h : s.Ok) (b : Byte) : (s.emit b).Ok := { h with }

@[simp] theorem State.lengthOf_withTx (s : State) (x : TxEngine) (p : PktId) :
    State.lengthOf { s with tx := x } p = s.lengthOf p := by cases p <;> rfl

/-- TXE's registers may change as the packet in flight allows (R203). -/
theorem State.Ok.setTx {s : State} {p : PktId} {x : TxEngine} (h : s.Ok) (hp : s.tx.pkt = some p)
    (hx : x.pkt = some p) (hphase : ({ s with tx := x } : State).txPhase p = true) :
    ({ s with tx := x } : State).Ok := by
  obtain ⟨taken, loose⟩ := h.take_tx hp
  have hbusy : s.tx.state ≠ .idle := fun hi => by simp [h.txUnbound.1 hi] at hp
  exact taken.put_tx loose rfl hx hphase (h.txie (.inl hbusy)) (h.sending p hp).2

/-- A byte on the line and the state after it, the packet and TX_POS staying (R192 to R195). -/
theorem State.Ok.sendTo {s : State} {p : PktId} (h : s.Ok) (hp : s.tx.pkt = some p) (b : Byte) (st : TxState)
    (hphase : (s.setTxState st).txPhase p = true) : ((s.emit b).setTxState st).Ok :=
  (h.setTx (x := { s.tx with state := st }) hp hp hphase).emit b

/-- `after_data()` with a payload byte sent (R201). -/
theorem State.Ok.txAdvance {s : State} {p : PktId} (h : s.Ok) (hp : s.tx.pkt = some p)
    (hpos : s.tx.pos.toNat < (s.lengthOf p).toNat) : (s.txAdvance p).Ok := by
  have hn := toNat_add_one_of_lt hpos (Nat.le_of_lt_succ (s.lengthOf p).isLt)
  refine h.setTx (x := { s.tx with pos := s.tx.pos + 1, state := s.afterData p (s.tx.pos + 1) }) hp hp ?_
  by_cases hend : s.tx.pos + 1 = s.lengthOf p
  · rw [State.afterData, if_pos hend]
    exact decide_eq_true hend
  · rw [State.afterData, if_neg hend]
    exact decide_eq_true (Nat.lt_of_le_of_ne (hn ▸ hpos) fun e => hend (BitVec.eq_of_toNat_eq e))

theorem State.Ok.txIdle {s : State} (h : s.Ok) (hi : s.tx.state = .idle) : s.txIdle.Ok := by
  unfold State.txIdle
  split
  · next hq =>
    have hq := dequeue_eq_none.1 hq
    exact { h with txie := fun hw => absurd hw (by simp [hi, hq]) }
  · next p rest hq =>
    have hq := dequeue_eq_some.1 hq
    obtain ⟨taken, loose⟩ := h.take_txq hq
    exact (taken.put_tx (x := { s.tx with state := .sentStart, pkt := some p, pos := 0 }) loose (h.txUnbound.1 hi) rfl
      rfl (h.txie (.inr (by simp [hq]))) (h.queued p (by simp [hq]))).emit markSTART

/-- INDEX goes out for an application packet only (R193). -/
theorem State.Ok.txIndexOrSize {s t : State} {p : PktId} (h : s.Ok) (hp : s.tx.pkt = some p) (hpos : s.tx.pos = 0)
    (ht : s.txIndexOrSize p = some t) : t.Ok := by
  unfold State.txIndexOrSize at ht
  split at ht
  · cases p with
    | drv i => cases ht
    | app g => cases ht; exact h.sendTo hp _ _ (by simp [State.txPhase, hpos])
  · cases ht; exact h.sendTo hp _ _ (by simp [State.txPhase, hpos])

theorem State.Ok.txData {s t : State} {p : PktId} (h : s.Ok) (hp : s.tx.pkt = some p)
    (hpos : s.tx.pos.toNat < (s.lengthOf p).toNat) (ht : s.txData p = some t) : t.Ok := by
  obtain ⟨b, -, ⟨hr, rfl⟩ | ⟨-, rfl⟩⟩ := State.txData_eq_some ht
  · exact (h.setTx (x := { s.tx with lit := b, state := .sentEsc }) hp hp
      (by simpa [State.txPhase, hr] using hpos)).emit markESCAPE
  · exact (h.emit b).txAdvance hp hpos

theorem State.Ok.txEnd {s : State} {p : PktId} (h : s.Ok) (hp : s.tx.pkt = some p) : (s.txEnd p).Ok := by
  obtain ⟨taken, loose⟩ := h.take_tx hp
  have done := taken.setFlags (p := p) loose (isAppOwned_completeFlags _)
  cases p with
  | drv i => exact (done.put_free (loose.setFlags _)).emit markEND
  | app g => exact done.emit markEND

theorem State.Ok.txStep {s t : State} (h : s.Ok) (ht : s.txStep = some t) : t.Ok := by
  cases hp : s.tx.pkt with
  | none =>
    have hi := h.txUnbound.2 hp
    simp only [State.txStep, hi, Option.some.injEq] at ht
    exact ht ▸ h.txIdle hi
  | some p =>
    have hphase := (h.sending p hp).1
    unfold State.txStep at ht
    unfold State.txPhase at hphase
    cases hst : s.tx.state <;>
      simp only [hst, hp, Option.map_some, Option.bind_some, Option.some.injEq, decide_eq_true_eq, Bool.and_eq_true,
        Bool.false_eq_true] at ht hphase
    case sentStart => exact ht ▸ h.sendTo hp _ _ (by simp [State.txPhase, hphase])
    case sentFlags => exact h.txIndexOrSize hp hphase ht
    case sentIndex => exact ht ▸ h.sendTo hp _ _ (by simp [State.txPhase, hphase])
    case sentSize1 =>
      refine ht ▸ h.sendTo hp _ _ ?_
      by_cases hlen : s.lengthOf p = 0
      · rw [if_pos hlen]
        exact decide_eq_true (hphase.trans hlen.symm)
      · rw [if_neg hlen]
        have hpos := BitVec.toNat_pos_of_ne_zero hlen
        simp [State.txPhase, State.setTxState, hphase, hpos]
    case sentSize2 => exact h.txData hp (by rw [hphase.1]; exact hphase.2) ht
    case sentData => exact h.txData hp hphase ht
    case sentEsc => exact ht ▸ (h.emit s.tx.lit).txAdvance hp hphase.1
    case sentAllData => exact ht ▸ h.txEnd hp

theorem State.Ok.txTurn {s : State} (h : s.Ok) : s.txTurn.Ok := by
  rcases s.txTurn_cases with eq | ⟨-, -, ht⟩
  · rwa [eq]
  · exact h.txStep ht

/-! ### Host memory -/

/-- A byte written at an admitted address (R74). -/
theorem State.Ok.writeMem {s : State} {a : Nat} (h : s.Ok) (ha : s.admits a = true) (v : Byte) :
    ({ s with mem := s.mem.put a v } : State).Ok :=
  { h with
    memWf := Memory.wf_put h.memWf a v
    memAdmits := fun c hc => by
      rcases Memory.mem_put hc with rfl | hc
      · exact ha
      · exact h.memAdmits c hc }

/-! ### The receive engine -/

@[simp] theorem State.lengthOf_withRx (s : State) (x : RxEngine) (p : PktId) :
    State.lengthOf { s with rx := x } p = s.lengthOf p := by cases p <;> rfl
@[simp] theorem State.capOf_withRx (s : State) (x : RxEngine) (p : PktId) :
    State.capOf { s with rx := x } p = s.capOf p := by cases p <;> rfl

/-- With no packet bound before and after, RXE's registers may change as they like but for what AWAIT_INDEX needs. -/
theorem State.Ok.setRx_unbound {s : State} {x : RxEngine} (h : s.Ok) (hs : s.rx.pkt = none) (hx : x.pkt = none)
    (hstate : x.state = .awaitStart ∨ x.state = .awaitFlags ∨ x.state = .awaitIndex)
    (hindex : x.state = .awaitIndex → isAppOwned x.flags = true ∧ x.flags &&& 0x70 = 0x50) :
    ({ s with rx := x } : State).Ok :=
  { h with
    placed := by
      have : State.places { s with rx := x } = s.places := by simp [State.places, hs, hx]
      rw [this]; exact h.placed
    rxUnbound := ⟨fun _ => hx, fun _ => hstate⟩
    awaitIndex := hindex
    receiving := fun p hp => by simp [hx] at hp }

/-- RXE's registers may change as the packet bound allows (R229). -/
theorem State.Ok.setRx {s : State} {p : PktId} {x : RxEngine} (h : s.Ok) (hp : s.rx.pkt = some p)
    (hx : x.pkt = some p) (hphase : ({ s with rx := x } : State).rxPhase p = true) :
    ({ s with rx := x } : State).Ok := by
  obtain ⟨taken, loose⟩ := h.take_rx hp
  exact taken.put_rx loose rfl hx hphase (h.receiving p hp).2

theorem State.Ok.rxAbort {s : State} (h : s.Ok) : s.rxAbort.Ok := by
  unfold State.rxAbort
  cases hp : s.rx.pkt with
  | none => exact h.setRx_unbound hp rfl (.inl rfl) (fun e => nomatch e)
  | some p =>
    obtain ⟨taken, loose⟩ := h.take_rx hp
    cases p with
    | drv i =>
      exact (taken.setFlagsLength_zero loose (f := 0x00) (taken.drv loose.slot).owned.symm).put_free
        (loose.setFlagsLength _ _)
    | app g => exact taken.setFlagsLength_zero loose (f := armedFlags) (taken.app loose.slot).owned.symm

theorem State.Ok.rxBind {s : State} {p : PktId} (h : s.Ok) (loose : s.Loose p) (hs : s.rx.pkt = none)
    (howned : isAppOwned s.rx.flags = isAppOwned (s.flagsOf p)) (hstatus : s.rx.flags &&& 0x70 = 0x50) :
    (s.rxBind p).Ok := by
  refine (h.setFlagsLength_zero loose howned).put_rx (p := p) (loose.setFlagsLength _ _) (by simpa using hs) rfl ?_ ?_
  · exact decide_eq_true (State.lengthOf_setFlagsLength loose.slot _ _)
  · rwa [State.flagsOf_setFlagsLength loose.slot]

theorem State.Ok.rxStart {s : State} (h : s.Ok) (hs : s.rx.pkt = none) (b : Byte) : (s.rxStart b).Ok := by
  unfold State.rxStart
  split
  · exact h.setRx_unbound hs hs (.inr (.inl rfl)) (fun e => nomatch e)
  · exact h

theorem State.Ok.rxTakeFlags {s : State} (h : s.Ok) (hs : s.rx.pkt = none) (hst : s.rx.state = .awaitFlags) (b : Byte) :
    (s.rxTakeFlags b).Ok := by
  unfold State.rxTakeFlags
  extract_lets x s1
  have h1 : s1.Ok := h.setRx_unbound hs hs (.inr (.inl hst)) (fun e => nomatch hst.symm.trans e)
  split
  · next howned =>
    exact h.setRx_unbound (x := { s.rx with flags := recvFlags b, state := .awaitIndex }) hs hs (.inr (.inr rfl))
      (fun _ => ⟨(isAppOwned_recvFlags b).trans howned, recvFlags_status b⟩)
  · next howned =>
    split
    · exact h1.rxAbort
    · next i rest hq =>
      obtain ⟨taken, loose⟩ := h1.take_free (dequeue_eq_some.1 hq)
      exact taken.rxBind loose hs (((isAppOwned_recvFlags b).trans (Bool.of_not_eq_true howned)).trans
        (taken.drv loose.slot).owned.symm) (recvFlags_status b)

theorem State.armed_iff {s : State} {g : Nat} : s.armed g = true ↔ (s.appPkt g).flags &&& 0x70 = 0x50 := by
  simp [State.armed, armedBits]

/-- An armed slot is not busy while RXE has no packet: those in TXQ and in transmission have other status bits
(R223, R266). -/
theorem State.Ok.loose_of_armed {s : State} {g : Nat} (h : s.Ok) (hs : s.rx.pkt = none) (hg : g < s.nApp)
    (ha : s.armed g = true) : s.Loose (.app g) := by
  refine ⟨hg, fun hp => ?_⟩
  have hflags : s.flagsOf (.app g) &&& 0x70 = 0x50 := State.armed_iff.1 ha
  rw [State.app_mem_places, State.mem_appPlaces] at hp
  rcases hp with hp | hp | hp
  · rw [h.queued _ hp] at hflags; cases hflags
  · rw [(h.sending _ hp).2] at hflags; cases hflags
  · rw [hs] at hp; cases hp

theorem State.Ok.rxTakeIndex {s : State} (h : s.Ok) (hs : s.rx.pkt = none) (hst : s.rx.state = .awaitIndex) (b : Byte) :
    (s.rxTakeIndex b).Ok := by
  unfold State.rxTakeIndex
  split
  · exact h.rxAbort
  · next hok =>
    obtain ⟨hg, ha⟩ := not_or.1 hok
    have loose := h.loose_of_armed hs (Nat.lt_of_not_le hg) (Bool.of_not_eq_false ha)
    obtain ⟨howned, hstatus⟩ := h.awaitIndex hst
    exact h.rxBind loose hs (howned.trans (h.app loose.slot).owned.symm) hstatus

theorem State.Ok.rxSizeLow {s : State} (h : s.Ok) (hst : s.rx.state = .awaitSize1) (b : Byte) : (s.rxSizeLow b).Ok := by
  cases hp : s.rx.pkt with
  | none => exact absurd (h.rxUnbound.2 hp) (by simp [hst])
  | some p =>
    have hlen := (h.receiving p hp).1
    exact h.setRx (x := { s.rx with size := b.setWidth 16, state := .awaitSize2 }) hp hp
      (by simpa [State.rxPhase, hst] using hlen)

theorem State.Ok.rxSizeHigh {s : State} {p : PktId} (h : s.Ok) (hp : s.rx.pkt = some p) (hst : s.rx.state = .awaitSize2)
    (hlen : s.lengthOf p = 0) (b : Byte) : (s.rxSizeHigh p b).Ok := by
  unfold State.rxSizeHigh
  extract_lets n x s1
  have h1 : s1.Ok := h.setRx hp hp (by simpa [State.rxPhase, x, hst] using hlen)
  split
  · exact h1.rxAbort
  · next hcap =>
    have hfits : n.toNat ≤ s.capOf p := Nat.le_of_not_lt hcap
    refine h1.setRx (x := { s1.rx with rem := n, state := if n = 0 then .awaitEnd else .awaitDataEsc }) hp hp ?_
    by_cases hn : n = 0
    · rw [if_pos hn]
      simp [State.rxPhase, s1, hn, hlen]
    · rw [if_neg hn]
      have hpos := BitVec.toNat_pos_of_ne_zero hn
      simp [State.rxPhase, s1, hlen, hfits, Nat.succ_le_of_lt hpos]

/-- What holds of RXE's registers and the packet it fills while payload bytes are to come (R229). -/
structure State.Filling (s : State) (p : PktId) : Prop where
  pkt   : s.rx.pkt = some p
  fits  : s.rx.size.toNat ≤ s.capOf p
  more  : 1 ≤ s.rx.rem.toNat
  count : (s.lengthOf p).toNat + s.rx.rem.toNat = s.rx.size.toNat

theorem State.Filling.lt_capOf {s : State} {p : PktId} (f : s.Filling p) : (s.lengthOf p).toNat < s.capOf p := by
  have hfits := f.fits
  have hmore := f.more
  have hcount := f.count
  omega

/-- RXE's registers after a payload byte (R229). -/
def RxEngine.stored (x : RxEngine) : RxEngine :=
  { x with rem := x.rem - 1, state := if x.rem - 1 = 0 then .awaitEnd else .awaitDataEsc }

/-- A payload byte keeps the count of R229: one more in the packet, one less to come. -/
theorem State.Filling.rxPhase_stored {s t : State} {p : PktId} (f : s.Filling p)
    (hlen : t.lengthOf p = s.lengthOf p + 1) (hcap : t.capOf p = s.capOf p) :
    ({ t with rx := s.rx.stored } : State).rxPhase p = true := by
  obtain ⟨-, hfits, hmore, hcount⟩ := f
  have hn : (s.lengthOf p + 1).toNat = (s.lengthOf p).toNat + 1 :=
    toNat_add_one_of_lt (cap := s.rx.size.toNat) (by omega) (Nat.le_of_lt_succ s.rx.size.isLt)
  have hr : (s.rx.rem - 1).toNat = s.rx.rem.toNat - 1 :=
    BitVec.toNat_sub_of_le (BitVec.le_def.2 (show (1 : Half).toNat ≤ _ from hmore))
  unfold State.rxPhase
  simp only [RxEngine.stored, State.lengthOf_withRx, State.capOf_withRx, hlen, hcap]
  by_cases hzero : s.rx.rem - 1 = 0
  · have hsize : s.lengthOf p + 1 = s.rx.size := by
      apply BitVec.eq_of_toNat_eq
      have : (s.rx.rem - 1).toNat = 0 := by rw [hzero]; rfl
      omega
    rw [if_pos hzero]
    simp only [hzero, hsize, hfits, decide_true, Bool.and_self]
  · have hmore' : 1 ≤ (s.rx.rem - 1).toNat := BitVec.toNat_pos_of_ne_zero hzero
    have hcount' : (s.lengthOf p + 1).toNat + (s.rx.rem - 1).toNat = s.rx.size.toNat := by omega
    rw [if_neg hzero]
    simp only [hfits, hmore', hcount', decide_true, Bool.and_self]

/-- One more byte counted in an application packet that has room for it (R121). -/
theorem State.Ok.setLength_app {s : State} {g : Nat} (h : s.Ok) (loose : s.Loose (.app g))
    (hroom : (s.appPkt g).length.toNat < (s.appPkt g).capacity.toNat) :
    (s.setLength (.app g) ((s.appPkt g).length + 1)).Ok := by
  have old := h.app loose.slot
  have hn := toNat_add_one_of_lt hroom (Nat.le_of_lt_succ (s.appPkt g).capacity.isLt)
  exact h.setApp loose { old with bound := show ((s.appPkt g).length + 1).toNat ≤ _ from hn ▸ hroom } rfl

/-- A payload byte of RXE, in the driver packet's buffer or in host memory (R229). -/
theorem State.Ok.rxStore {s t : State} {p : PktId} {b : Byte} (h : s.Ok) (f : s.Filling p)
    (ht : s.rxStore p b = some t) : t.Ok := by
  obtain ⟨s1, hw, rfl⟩ := State.rxStore_eq_some ht
  obtain ⟨taken, loose⟩ := h.take_rx f.pkt
  have hflags := (h.receiving p f.pkt).2
  cases p with
  | drv i =>
    cases hw
    have hi : i < s.nDrv := loose.slot
    have hrec : (s.storeDrv i b).drvPkt i = _ := State.drvPkt_setDrv_same hi _
    change State.Ok { State.setLength (s.setDbuf i (s.drvPkt i).length.toNat b) (.drv i) ((s.drvPkt i).length + 1) with
      rx := s.rx.stored }
    rw [State.setLength_setDbuf hi]
    exact (taken.storeDrv loose f.lt_capOf b).put_rx (p := .drv i) (loose.setDrv _) rfl f.pkt
      (f.rxPhase_stored (t := s.storeDrv i b) (congrArg DrvPkt.length hrec) rfl)
      ((congrArg (·.flags &&& 0x70) hrec).trans hflags)
  | app g =>
    obtain ⟨ha, rfl⟩ := State.memWrite_eq_some.1 hw
    have written := taken.writeMem ha b
    have counted := written.setLength_app loose f.lt_capOf
    have hg : s.HasSlot (.app g) := loose.slot
    exact counted.put_rx (p := .app g) (loose.setApp _) rfl f.pkt
      (f.rxPhase_stored (State.lengthOf_setLength hg _) (State.capOf_setLength hg _))
      ((congrArg (· &&& 0x70) (State.flagsOf_setLength hg _)).trans hflags)

/-- AWAIT_END: delivered, or aborted; no packet is bound after it (R228). -/
theorem State.Ok.rxEnd {s : State} {p : PktId} (h : s.Ok) (hp : s.rx.pkt = some p) (b : Byte) : (s.rxEnd p b).Ok := by
  unfold State.rxEnd
  split
  · obtain ⟨taken, loose⟩ := h.take_rx hp
    have done := taken.setFlags loose (isAppOwned_completeFlags _)
    cases p with
    | drv i =>
      refine done.put_rxq (loose.setFlags _) ?_
      exact (congrArg (· &&& 0x70) (State.flagsOf_setFlags loose.slot _)).trans
        (completeFlags_status _ (h.receiving _ hp).2)
    | app g => exact done
  · exact h.rxAbort.setRx_unbound rfl rfl (.inl rfl) (fun e => nomatch e)

theorem State.Ok.filling {s : State} {p : PktId} (h : s.Ok) (hp : s.rx.pkt = some p)
    (hst : s.rx.state = .awaitDataEsc ∨ s.rx.state = .awaitData) : s.Filling p := by
  have hphase := (h.receiving p hp).1
  rcases hst with hst | hst <;>
    simp only [State.rxPhase, hst, Bool.and_eq_true, decide_eq_true_eq] at hphase <;>
    exact ⟨hp, hphase.1.1, hphase.1.2, hphase.2⟩

theorem State.Ok.rxDataEsc {s t : State} {p : PktId} {b : Byte} (h : s.Ok) (f : s.Filling p)
    (ht : s.rxDataEsc p b = some t) : t.Ok := by
  unfold State.rxDataEsc at ht
  split at ht
  · cases ht
    exact h.setRx (x := { s.rx with state := .awaitData }) f.pkt f.pkt
      (by simp [State.rxPhase, f.fits, f.more, f.count])
  · exact h.rxStore f ht

theorem State.Ok.rxStep {s t : State} {b : Byte} (h : s.Ok) (ht : s.rxStep b = some t) : t.Ok := by
  unfold State.rxStep at ht
  cases hst : s.rx.state <;> simp only [hst, Option.some.injEq, Option.map_eq_some_iff, Option.bind_eq_some_iff] at ht
  case awaitStart => exact ht ▸ h.rxStart (h.rxUnbound.1 (.inl hst)) b
  case awaitFlags => exact ht ▸ h.rxTakeFlags (h.rxUnbound.1 (.inr (.inl hst))) hst b
  case awaitIndex => exact ht ▸ h.rxTakeIndex (h.rxUnbound.1 (.inr (.inr hst))) hst b
  case awaitSize1 => exact ht ▸ h.rxSizeLow hst b
  case awaitSize2 =>
    obtain ⟨p, hp, rfl⟩ := ht
    have hlen := (h.receiving p hp).1
    simp only [State.rxPhase, hst, decide_eq_true_eq] at hlen
    exact h.rxSizeHigh hp hst hlen b
  case awaitDataEsc =>
    obtain ⟨p, hp, ht⟩ := ht
    exact h.rxDataEsc (h.filling hp (.inl hst)) ht
  case awaitData =>
    obtain ⟨p, hp, ht⟩ := ht
    exact h.rxStore (h.filling hp (.inr hst)) ht
  case awaitEnd =>
    obtain ⟨p, hp, rfl⟩ := ht
    exact h.rxEnd hp b

theorem State.Ok.takeByte {s : State} (h : s.Ok) : s.takeByte.Ok := { h with }

theorem State.Ok.rxTurn {s : State} (h : s.Ok) : s.rxTurn.Ok := by
  rcases s.rxTurn_cases with eq | ⟨b, -, ht⟩
  · rwa [eq]
  · exact h.takeByte.rxStep ht

end Sys2Proof.Machine
end

section
/-! PROOFS. Every access of the foreground, and so every step of the machine, keeps the invariant. -/

namespace Sys2Proof.Machine

/-! ### The foreground -/

/-- ARG_ADDR keeps `ADDR_W` bits (R45). -/
theorem State.maskAddr_lt (s : State) (v : Word) : (s.maskAddr v).toNat < 2 ^ s.cfg.addrW := by
  rw [State.maskAddr, BitVec.toNat_ofNat]
  exact Nat.lt_of_le_of_lt (Nat.mod_le _ _) (Nat.mod_lt _ (Nat.two_pow_pos _))

/-- The invariant says nothing of the foreground. -/
theorem State.Ok.setFg {s : State} (h : s.Ok) (f : Foreground) : ({ s with fg := f } : State).Ok := { h with }

/-- The invariant says nothing of the oracle. -/
theorem State.Ok.setOracle {s : State} (h : s.Ok) (o : Oracle) : ({ s with oracle := o } : State).Ok := { h with }

theorem State.Ok.writeReg {s t : State} {off : Nat} {v : Word} (h : s.Ok) (ht : s.writeReg off v = .next t) : t.Ok := by
  unfold State.writeReg at ht
  split at ht
  · exact (h.setFg _).runCommand ht
  · split at ht
    · cases ht; exact { h with }
    · split at ht <;> cases ht
      · exact { h with argAddr := s.maskAddr_lt v }
      · exact h

theorem State.Ok.hostWrite {s : State} (h : s.Ok) (a : Nat) (b : Byte) : (s.hostWrite a b).Ok := by
  rcases s.hostWrite_cases a b with eq | ⟨ha, ⟨-, eq⟩ | ⟨-, eq⟩⟩ <;> rw [eq]
  · exact h
  · exact h.writeMem ha b
  · exact (h.writeMem ha _).setOracle _

theorem State.Ok.hostRead {s : State} (h : s.Ok) (a : Nat) : (s.hostRead a).Ok := by
  rcases s.hostRead_cases a with ⟨-, -, eq⟩ | eq <;> rw [eq]
  · exact h.setFg _
  · exact (h.setOracle _).setFg _

theorem State.Ok.pollCheck {s : State} (h : s.Ok) (again : HostOp) : (s.pollCheck again).Ok := by
  unfold State.pollCheck
  extract_lets s1
  split
  · exact h.setFg _
  · exact h.setFg _

theorem State.Ok.access {s t : State} {op : HostOp} (h : s.Ok) (ht : s.access op = .next t) : t.Ok := by
  cases op with
  | regWrite addr size v =>
    simp only [State.access, State.regWrite] at ht
    split at ht
    · split at ht
      · exact h.writeReg ht
      · cases ht
    · cases ht
  | regRead addr size =>
    simp only [State.access, State.regRead] at ht
    split at ht
    · split at ht <;> cases ht
      exact h.setFg _
    · cases ht
  | poke a b => exact (State.poke_eq_next.1 ht).2 ▸ h.hostWrite a b
  | peek a => exact (State.peek_eq_next.1 ht).2 ▸ h.hostRead a
  | pollTx a => exact (h.setFg _).runCommand ht
  | pollTxRead a => cases ht; exact h.pollCheck _
  | pollRx a => exact (h.setFg _).runCommand ht
  | pollRxRead a => cases ht; exact h.pollCheck _

theorem State.Ok.fgTurn {s t : State} (h : s.Ok) (ht : s.fgTurn = .next t) : t.Ok := by
  unfold State.fgTurn at ht
  split at ht
  · exact h.runCommand ht
  · split at ht
    · cases ht; exact h
    · exact (h.setFg _).access ht

/-! ### A step -/

theorem State.Ok.linkPresent {s : State} (h : s.Ok) : s.linkPresent.Ok := by
  unfold State.linkPresent
  split
  · exact { h with }
  · exact h

/-- A reset is a launch with these parameters; host memory and what it admits stay (R351). -/
theorem State.Ok.resetBlock {s : State} (h : s.Ok) : s.resetBlock.Ok :=
  { State.inv_iff.1 (State.launch_inv h.legal s.cfg.ram) with memWf := h.memWf, memAdmits := h.memAdmits }

theorem State.Ok.turn {s t : State} {d : Draw} (h : s.Ok) (ht : s.turn d = .next t) : t.Ok := by
  cases d with
  | fg => exact h.fgTurn ht
  | rxe => cases ht; exact h.rxTurn
  | txe => cases ht; exact h.txTurn
  | linkByte => cases ht; exact h.linkPresent
  | linkReady r => cases ht; exact { h with }
  | reset => cases ht; exact h.resetBlock

theorem State.Ok.afterDraw {s : State} (h : s.Ok) : s.afterDraw.Ok := by
  unfold State.afterDraw
  split
  · exact h.setOracle _
  · exact h.setOracle _

/-- Settles O60: every turn of every agent keeps the invariant in its named form. -/
theorem stepKeepsTheInvariant : Obligations.StepKeepsTheInvariant :=
  fun _ _ h ht => State.inv_iff.2 ((State.inv_iff.1 h).afterDraw.turn ht)

/-- Settles O56: ownership (R29) is a part of the invariant. -/
theorem stepKeepsOwnership : Obligations.StepKeepsOwnership := fun s t h ht => by
  obtain ⟨-, -, owned, -⟩ := stepKeepsTheInvariant s t h ht
  exact owned

/-- Settles O57: the location invariant (R39) is a part of the invariant. -/
theorem stepKeepsLocation : Obligations.StepKeepsLocation := fun s t h ht => by
  obtain ⟨-, located, -⟩ := stepKeepsTheInvariant s t h ht
  exact located

end Sys2Proof.Machine
end

section
/-! PROOFS. What no command touches (R44, R45, R82), the register window (R42 to R49), the foreground's command step
(R43), and reset (R51, R350, R351). -/

namespace Sys2Proof.Machine

/-! ### What no command touches -/

/-- The engines, LINK, host memory, the oracle, the launch's constants, the argument registers, the table sizes, and
what the foreground has still to do and has seen. -/
def State.outside (s : State) : TxEngine × RxEngine × Link × Memory × Oracle × Launch × Nat × Half × Word ×
    List HostOp × List Word × Nat × Nat :=
  (s.tx, s.rx, s.link, s.mem, s.oracle, s.cfg, s.epoch, s.regs.argLen, s.regs.argAddr, s.fg.ops, s.fg.seen, s.nDrv,
    s.nApp)

theorem State.outside_setDrv (s : State) (i : Nat) (p : DrvPkt) : (s.setDrv i p).outside = s.outside := by
  simp [State.outside, State.nApp]

theorem State.outside_setApp (s : State) (h : Nat) (p : AppPkt) : (s.setApp h p).outside = s.outside := by
  simp [State.outside, State.nDrv]

theorem State.outside_checkHandle {s body : State} (a : Byte) (h : body.outside = s.outside) :
    (s.checkHandle a body).outside = s.outside := by
  unfold State.checkHandle; split
  · rfl
  · exact h

theorem State.outside_checkBusy {s body : State} (a : Byte) (h : body.outside = s.outside) :
    (s.checkBusy a body).outside = s.outside := by
  unfold State.checkBusy; split
  · rfl
  · exact h

theorem State.outside_checkHeld {s body : State} (a : Byte) (h : body.outside = s.outside) :
    (s.checkHeld a body).outside = s.outside := by
  unfold State.checkHeld; split
  · exact h
  · rfl

theorem State.outside_queueSlot (s : State) (h flags : Byte) : (s.queueSlot h flags).outside = s.outside :=
  State.outside_setApp s _ _

theorem State.outside_armSlot (s : State) (h : Byte) : (s.armSlot h).outside = s.outside := State.outside_setApp s _ _

theorem State.outside_releaseSlot (s : State) (h : Byte) : (s.releaseSlot h).outside = s.outside :=
  State.outside_setApp s _ _

theorem State.outside_predicate (s : State) (h : Byte) (forRx : Bool) : (s.predicate h forRx).outside = s.outside := rfl

theorem State.outside_freeHeld (s : State) (i : Byte) : (s.freeHeld i).outside = s.outside :=
  State.outside_setDrv s _ _

theorem State.outside_bldFinish (s : State) (last : Bool) (i : Nat) : (s.bldFinish last i).outside = s.outside :=
  State.outside_setDrv s _ _

theorem State.outside_bldFlush (s : State) : s.bldFlush.outside = s.outside := by
  cases hb : s.bld.pkt with
  | none => rw [State.bldFlush_none hb]
  | some i => rw [State.bldFlush_some hb, State.outside_bldFinish]

theorem State.outside_bldOpen (s : State) (i : Nat) (f : Byte) : (s.bldOpen i f).outside = s.outside :=
  State.outside_setDrv s _ _

theorem State.outside_bldStore (s : State) (i : Nat) (b : Byte) : (s.bldStore i b).outside = s.outside := by
  unfold State.bldStore
  extract_lets p n s1 bld s2
  have stored : s1.outside = s.outside := (State.outside_setDrv _ _ _).trans (State.outside_setDrv _ _ _)
  have closed : s2.outside = s.outside := by
    simp only [s2]
    split
    · exact (State.outside_bldFinish _ _ _).trans stored
    · exact stored
  exact closed

theorem State.outside_append (s : State) (b : Byte) : (s.append b).outside = s.outside := by
  unfold State.append
  rcases s.bldLazy_cases with ⟨i, -, eq⟩ | ⟨i, rest, -, -, eq⟩ | ⟨-, -, eq⟩ <;> rw [eq]
  · exact s.outside_bldStore i b
  · exact (State.outside_bldStore _ i b).trans (State.outside_bldOpen _ _ _)

theorem State.outside_infer (s : State) (b : Byte) : (s.infer b).outside = s.outside := by
  unfold State.infer; split <;> rfl

theorem State.outside_readHeld (s : State) (i : Byte) : (s.readHeld i).outside = s.outside := by
  unfold State.readHeld; extract_lets p; split <;> rfl

theorem execStartOutgoing_outside {s t : State} {usage : Byte} (ht : execStartOutgoing usage s = .next t) :
    t.outside = s.outside := by
  unfold execStartOutgoing at ht
  extract_lets s1 bld s2 flags at ht
  split at ht <;> cases ht
  · exact s.outside_bldFlush
  · exact (State.outside_bldOpen _ _ _).trans s.outside_bldFlush

theorem execRxCollect_outside {s t : State} (ht : execRxCollect s = .next t) : t.outside = s.outside := by
  unfold execRxCollect at ht
  split at ht <;> cases ht <;> rfl

theorem exec_outside {i : Instr} {s t : State} (ht : exec i s = .next t) : t.outside = s.outside := by
  cases i with
  | nop => cases ht; rfl
  | startOutgoing usage => exact execStartOutgoing_outside ht
  | appendByte b => cases ht; exact s.outside_append b
  | appendInfer b => cases ht; exact ((s.infer b).outside_append b).trans (s.outside_infer b)
  | flush => cases ht; exact s.outside_bldFlush
  | queueTx h flags =>
    cases ht; exact State.outside_checkHandle h (State.outside_checkBusy h (s.outside_queueSlot h flags))
  | armRx h => cases ht; exact State.outside_checkHandle h (State.outside_checkBusy h (s.outside_armSlot h))
  | isTxDone h => cases ht; exact State.outside_checkHandle h (s.outside_predicate h false)
  | isRxDone h => cases ht; exact State.outside_checkHandle h (s.outside_predicate h true)
  | release h => cases ht; exact State.outside_checkHandle h (State.outside_checkBusy h (s.outside_releaseSlot h))
  | rxCollect => exact execRxCollect_outside ht
  | rxReadByte i => cases ht; exact State.outside_checkHeld i (s.outside_readHeld i)
  | rxFree i => cases ht; exact State.outside_checkHeld i (s.outside_freeHeld i)
  | setActive bit => cases ht; rfl
  | queryActive => cases ht; rfl

/-- Settles O22: the thirteen components of `State.outside` are those the statement lists. -/
theorem commandsLeaveTheEnginesAlone : Obligations.CommandsLeaveTheEnginesAlone := fun i s t ht => by
  simpa only [State.outside, Prod.mk.injEq] using exec_outside ht

/-! ### The register window -/

/-- A multiple of four below 32 is the offset of an aligned 32-bit access of the window (R81). -/
theorem State.window_access (s : State) {off : Nat} (h : off < 32 ∧ off % 4 = 0) :
    s.touchesWindow (s.cfg.regBase + off) 4 = true ∧ s.alignedAccess (s.cfg.regBase + off) 4 = true := by
  constructor
  · simp [State.touchesWindow, h.1, Nat.add_assoc]
  · simp [State.alignedAccess, h.2]

/-- An aligned 32-bit write of the window reaches the register at its offset (R81). -/
theorem State.regWrite_window (s : State) {off : Nat} (h : off < 32 ∧ off % 4 = 0) (v : Word) :
    s.regWrite (s.cfg.regBase + off) 4 v = s.writeReg off v := by
  obtain ⟨htouch, halign⟩ := s.window_access h
  rw [State.regWrite, if_pos htouch, if_pos halign, Nat.add_sub_cancel_left]

/-- An aligned 32-bit read of the window shows the register at its offset (R81, R49). -/
theorem State.regRead_window (s : State) {off : Nat} (h : off < 32 ∧ off % 4 = 0) :
    s.regRead (s.cfg.regBase + off) 4 = .next (s.sees (s.regValue off)) := by
  obtain ⟨htouch, halign⟩ := s.window_access h
  rw [State.regRead, if_pos htouch, if_pos halign, Nat.add_sub_cancel_left]

/-- Read-only registers and reserved offsets ignore a write (R46 to R49). -/
theorem State.writeReg_ignored (s : State) {off : Nat} (h : 0x0C ≤ off) (v : Word) : s.writeReg off v = .next s := by
  unfold State.writeReg
  rw [if_neg (by omega), if_neg (by omega), if_neg (by omega)]

/-- A 16-bit register read as a word (R44, R47). -/
theorem setWidth_half (x : Half) : x.setWidth 32 = (0 : BitVec 16) ++ x := by
  rw [BitVec.setWidth_eq_append (by decide)]; rfl

/-- Settles O24: an offset of the window is written and read as `writeReg` and `regValue` say. -/
theorem registerWindow : Obligations.RegisterWindow := by
  refine ⟨fun s v => ⟨?_, ?_, ?_, fun off hoff => ?_⟩, fun s off v h => ?_⟩
  · exact s.regWrite_window (off := 0) (by decide) v
  · exact s.regWrite_window (by decide) v
  · exact s.regWrite_window (by decide) v
  · have hwin : 0x0C ≤ off ∧ off < 32 ∧ off % 4 = 0 := by
      revert off; decide
    rw [s.regWrite_window hwin.2, s.writeReg_ignored hwin.1]
  · have hval : (off < 32 ∧ off % 4 = 0) ∧ s.regValue off = v := by
      simp only [List.mem_cons, Prod.mk.injEq, List.not_mem_nil, or_false] at h
      rcases h with ⟨rfl, rfl⟩ | ⟨rfl, rfl⟩ | ⟨rfl, rfl⟩ | ⟨rfl, rfl⟩ | ⟨rfl, rfl⟩ | ⟨rfl, rfl⟩ | ⟨rfl, rfl⟩ |
        ⟨rfl, rfl⟩
      · exact ⟨by decide, rfl⟩
      · exact ⟨by decide, setWidth_half s.regs.argLen⟩
      · exact ⟨by decide, rfl⟩
      · exact ⟨by decide, rfl⟩
      · exact ⟨by decide, setWidth_half s.regs.resultLen⟩
      · exact ⟨by decide, rfl⟩
      · exact ⟨by decide, rfl⟩
      · exact ⟨by decide, rfl⟩
    rw [s.regRead_window hval.1, hval.2]
    rfl

/-- The slots of a list without repetition are no more than the table has. -/
theorem length_le_of_nodup {l : List Nat} {n : Nat} (hn : l.Nodup) (hlt : ∀ i ∈ l, i < n) : l.length ≤ n := by
  have := (hn.subperm (l₂ := List.range n) fun i hi => List.mem_range.2 (hlt i hi)).length_le
  simpa using this

/-- FREEQ is no longer than the driver table (R39). -/
theorem State.freeq_length_le {s : State} (h : s.Located) : s.freeq.length ≤ s.nDrv := by
  obtain ⟨hn, hlt, -, -⟩ := h
  simp only [State.drvPlaces, List.append_assoc] at hn
  exact length_le_of_nodup hn.of_append_left fun i hi => hlt i (State.mem_drvPlaces.2 (.inl hi))

/-- RXQ is no longer than the driver table (R39). -/
theorem State.rxq_length_le {s : State} (h : s.Located) : s.rxq.length ≤ s.nDrv := by
  obtain ⟨hn, hlt, -, -⟩ := h
  exact length_le_of_nodup hn.of_append_right fun i hi => hlt i (State.mem_drvPlaces.2 (by simp [hi]))

/-- The fields of a word put together in the order of R48. -/
theorem fields_of_status_append (rxq freeq : Byte) (b15 : BitVec 1) (rx : BitVec 3) (tx : BitVec 4)
    (b76 carry : BitVec 2) (cont opened txie active : Bool) :
    let w := rxq ++ freeq ++ b15 ++ rx ++ tx ++ b76 ++ carry ++ BitVec.ofBool cont ++ BitVec.ofBool opened ++
      BitVec.ofBool txie ++ BitVec.ofBool active
    (w.getLsbD 0 = active ∧ w.getLsbD 1 = txie ∧ w.getLsbD 2 = opened ∧ w.getLsbD 3 = cont ∧
      w.getLsbD 15 = b15.getLsbD 0) ∧
    w.extractLsb' 4 2 = carry ∧ w.extractLsb' 6 2 = b76 ∧ w.extractLsb' 8 4 = tx ∧ w.extractLsb' 12 3 = rx ∧
      w.extractLsb' 16 8 = freeq ∧ w.extractLsb' 24 8 = rxq := by
  intro w
  constructor
  · simp only [w, BitVec.getLsbD_append, BitVec.getLsbD_ofBool, Nat.reduceLT, Nat.reduceSub, if_true, if_false,
      decide_true, Bool.true_and, and_self]
  · simp only [w, BitVec.extractLsb'_append_eq_of_le, Nat.reduceLeDiff, Nat.reduceSub,
      BitVec.extractLsb'_append_eq_right, BitVec.extractLsb'_eq_self, and_self]

/-- The numbers of the transmit states (R34). -/
theorem txStateCode_mem (st : TxState) : (st, txStateCode st) ∈
    [(TxState.idle, (0 : BitVec 4)), (.sentStart, 1), (.sentFlags, 2), (.sentIndex, 3), (.sentSize1, 4),
      (.sentSize2, 5), (.sentData, 6), (.sentEsc, 7), (.sentAllData, 8)] := by
  cases st <;> decide

/-- The numbers of the receive states (R36). -/
theorem rxStateCode_mem (st : RxState) : (st, rxStateCode st) ∈
    [(RxState.awaitStart, (0 : BitVec 3)), (.awaitFlags, 1), (.awaitIndex, 2), (.awaitSize1, 3), (.awaitSize2, 4),
      (.awaitDataEsc, 5), (.awaitData, 6), (.awaitEnd, 7)] := by
  cases st <;> decide

/-- A count of at most 255 fits its byte of STATUS (R48). -/
theorem toNat_count {n : Nat} (h : n ≤ 255) : (BitVec.ofNat 8 n).toNat = n := by
  rw [BitVec.toNat_ofNat]; exact Nat.mod_eq_of_lt (Nat.lt_succ_of_le h)

/-- Settles O25: the fields are those of the append, and the queues fit their counts since no slot stands in one twice
(R39). -/
theorem statusFieldsShowTheState : Obligations.StatusFieldsShowTheState := by
  intro s h
  obtain ⟨⟨⟨⟨-, hslots⟩, -⟩, -⟩, located, -⟩ := h
  have hfreeq := toNat_count ((State.freeq_length_le located).trans hslots)
  have hrxq := toNat_count ((State.rxq_length_le located).trans hslots)
  obtain ⟨⟨active, txie, opened, cont, bit15⟩, carry, bits76, tx, rx, freeq, rxq⟩ :=
    fields_of_status_append (BitVec.ofNat 8 s.rxq.length) (BitVec.ofNat 8 s.freeq.length) 0 (rxStateCode s.rx.state)
      (txStateCode s.tx.state) 0 s.bld.carry s.bld.cont s.bld.pkt.isSome s.txie s.active
  refine ⟨active, txie, opened, cont, carry, bits76, ?_, ?_, bit15, ?_, ?_, s.regRead_window (by decide), fun v => ?_⟩
  · exact (congrArg (fun c => (s.tx.state, c) ∈ _) tx).mpr (txStateCode_mem _)
  · exact (congrArg (fun c => (s.rx.state, c) ∈ _) rx).mpr (rxStateCode_mem _)
  · exact (congrArg BitVec.toNat freeq).trans hfreeq
  · exact (congrArg BitVec.toNat rxq).trans hrxq
  · rw [s.regWrite_window (by decide), s.writeReg_ignored (by decide)]

/-! ### A step that runs a command -/

/-- A turn of the foreground with a command outstanding (R43). -/
theorem State.fgTurn_outstanding {s : State} {w : Word} {i : Instr} (hcmd : s.fg.cmdPort = some w)
    (hw : decode w = .ok i) : s.fgTurn = exec i s := by
  simp only [State.fgTurn, hcmd, State.runCommand, hw]

/-- A turn of the foreground that writes a command (R43). -/
theorem State.fgTurn_writes {s : State} {w : Word} {i : Instr} {rest : List HostOp} (hcmd : s.fg.cmdPort = none)
    (hops : s.fg.ops = .regWrite s.cfg.regBase 4 w :: rest) (hw : decode w = .ok i) :
    s.fgTurn = exec i { s with fg := { s.fg with cmdPort := some w, ops := rest } } := by
  have hwrite := State.regWrite_window { s with fg := { s.fg with ops := rest } } (off := 0) (by decide) w
  unfold State.fgTurn
  rw [hcmd, hops]
  refine hwrite.trans ?_
  simp only [State.writeReg, if_true, State.writeCmd, State.runCommand, hw]

/-- Settles O44. -/
theorem stepRunsTheDecodedCommand : Obligations.StepRunsTheDecodedCommand := by
  intro s w i hd hw
  have hstep : step s = s.afterDraw.fgTurn := by rw [step, hd, State.turn]
  refine ⟨fun hcmd => ?_, fun rest hcmd hops => ?_⟩
  · rw [hstep, State.fgTurn_outstanding (by rwa [State.afterDraw_fg]) hw]
  · rw [hstep, State.fgTurn_writes (by rwa [State.afterDraw_fg]) (by rwa [State.afterDraw_fg, State.afterDraw_cfg]) hw,
      State.afterDraw_fg]

/-! ### Reset -/

/-- Driver slots of a launch (R51). -/
theorem State.launch_drvPkt (p : Params) (ram : List Region) {i : Nat} (h : i < p.nDrv) :
    (State.launch p ram).drvPkt i = DrvPkt.reset :=
  State.eq_reset_of_mem_launch_drv (State.drvPkt_mem (by rwa [State.launch_nDrv]))

/-- Application slots of a launch (R51). -/
theorem State.launch_appPkt (p : Params) (ram : List Region) {g : Nat} (h : g < p.nApp) :
    (State.launch p ram).appPkt g = AppPkt.reset g := by
  simp [State.appPkt, State.launch, h]

/-- Settles O50. -/
theorem resetState : Obligations.ResetState := by
  refine ⟨rfl, rfl, rfl, rfl, rfl, fun i hi => ?_, fun g hg => State.launch_appPkt _ _ hg, rfl, rfl, rfl, rfl, rfl, rfl,
    by decide⟩
  rw [State.reset, State.launch_drvPkt _ _ hi]
  exact ⟨rfl, rfl⟩

/-- Settles O51: the block after a reset is the block of a launch with the same parameters. -/
theorem platformResetRestoresTheBlock : Obligations.PlatformResetRestoresTheBlock := by
  intro s t ht
  cases ht
  refine ⟨rfl, State.launch_nDrv s.params s.cfg.ram, State.launch_nApp s.params s.cfg.ram, rfl, rfl, fun i hi => ?_,
    fun g hg => State.launch_appPkt s.params s.cfg.ram hg, rfl, rfl, rfl, rfl, rfl, rfl, rfl⟩
  rw [show s.resetBlock.drvPkt i = DrvPkt.reset from State.launch_drvPkt s.params s.cfg.ram hi]
  exact ⟨rfl, rfl⟩

end Sys2Proof.Machine
end

section
/-! PROOFS. A second attempt on a queued handle (20_memory.md R88, R358), and accesses of the register window that are
refused (R81). -/

namespace Sys2Proof.Machine

/-! ### A second attempt on a queued handle -/

/-- A result is all a result changes (R46). -/
theorem onlyResult_putResult (s : State) (st : Status) (val fl : Byte) (len : Half) :
    OnlyResult s (s.putResult st val fl len) (statusCode st) val fl len :=
  ⟨⟨rfl, rfl, rfl, rfl, rfl, rfl, rfl, rfl⟩, rfl, rfl, rfl, rfl, rfl, rfl, rfl, rfl, rfl⟩

/-- A command that makes both checks answers BUSY for a busy handle, and does nothing else (R147, R260). -/
theorem State.onlyResult_of_busy {s : State} {h : Byte} (hh : h.toNat < s.nApp) (hb : s.busy h.toNat = true)
    (body : State) : OnlyResult s (s.checkHandle h (s.checkBusy h body)) 0x02 h 0 0 := by
  rw [State.checkHandle_ok hh, State.checkBusy_busy hb]
  exact onlyResult_putResult s .busy h 0 0

theorem State.busy_queueSlot (s : State) (h flags : Byte) : (s.queueSlot h flags).busy h.toNat = true :=
  State.busy_iff.2 (.inr (.inr (by simp [State.queueSlot, slotOfA])))

theorem State.nApp_queueSlot (s : State) (h flags : Byte) : (s.queueSlot h flags).nApp = s.nApp :=
  State.nApp_setApp s _ _

/-- Settles O16: the queued handle is busy, and the three commands make the busy check. -/
theorem secondQueueAttemptIsBusy : Obligations.SecondQueueAttemptIsBusy := by
  intro s t h f g hh hidle ht
  have hfree : s.busy h.toNat = false := Bool.eq_false_iff.2 (mt State.busy_iff_mem_appPlaces.1 hidle)
  obtain rfl : s.queueSlot h f = t := by
    simpa only [exec, execQueueTx, State.checkHandle_ok hh, State.checkBusy_free hfree, Host.Outcome.next.injEq]
      using ht
  have answer := State.onlyResult_of_busy (by rwa [State.nApp_queueSlot]) (s.busy_queueSlot h f)
  exact ⟨⟨_, rfl, answer _⟩, ⟨_, rfl, answer _⟩, ⟨_, rfl, answer _⟩⟩

/-! ### Accesses of the window that are refused -/

theorem State.touchesWindow_iff {s : State} {addr size : Nat} :
    s.touchesWindow addr size = true ↔ addr < s.cfg.regBase + 32 ∧ s.cfg.regBase < addr + size := by
  simp [State.touchesWindow]

/-- An aligned 32-bit access that begins in the window is one of its eight words (R81). -/
theorem State.word_of_alignedAccess {s : State} {addr size : Nat} (h : s.alignedAccess addr size = true)
    (hlt : addr < s.cfg.regBase + 32) : size = 4 ∧ ∃ k < 8, addr = s.cfg.regBase + 4 * k := by
  simp only [State.alignedAccess, Bool.and_eq_true, decide_eq_true_eq] at h
  obtain ⟨⟨hsize, hle⟩, halign⟩ := h
  exact ⟨hsize, (addr - s.cfg.regBase) / 4, by omega, by omega⟩

/-- Settles O26: only a byte outside the window, or an aligned word of it, gets past the tests of R81. -/
theorem otherWindowAccessesAreRefused : Obligations.OtherWindowAccessesAreRefused := by
  refine ⟨fun s a b hle hlt => ?_, fun s addr size v hlt hover hword => ?_⟩
  · have hwin : s.inWindow a = true := by simp [State.inWindow, hle, hlt]
    exact ⟨if_pos hwin, if_pos hwin⟩
  · have htouch := State.touchesWindow_iff.2 ⟨hlt, hover⟩
    have halign : ¬s.alignedAccess addr size = true := fun h => hword (State.word_of_alignedAccess h hlt)
    exact ⟨(if_pos htouch).trans (if_neg halign), (if_pos htouch).trans (if_neg halign)⟩

end Sys2Proof.Machine
end

section
/-! PROOFS. What host memory and the driver buffers hold (20_memory.md R70, R72), and what each command does to them: only an
APPEND writes, and only the byte it stores (R71). -/

namespace Sys2Proof.Machine

/-! ### What host memory and the driver buffers hold -/

/-- Host memory, and every byte of every driver buffer (R70, R72). -/
def State.memories (s : State) : Memory × (Nat → Nat → Byte) := (s.mem, s.dbuf)

theorem State.mem_eq {s t : State} (h : t.memories = s.memories) : t.mem = s.mem := congrArg Prod.fst h

theorem State.dbuf_eq {s t : State} (h : t.memories = s.memories) (i k : Nat) : t.dbuf i k = s.dbuf i k :=
  congrFun (congrFun (congrArg Prod.snd h) i) k

/-- A slot number outside the table names no record (R39). -/
theorem State.setDrv_outside {s : State} {i : Nat} (h : ¬i < s.nDrv) (d : DrvPkt) : s.setDrv i d = s := by
  have : s.drv.set i d = s.drv := List.set_eq_of_length_le (Nat.le_of_not_lt h)
  simp only [State.setDrv, this]

theorem State.drvPkt_setDrv {s : State} {i : Nat} (h : i < s.nDrv) (d : DrvPkt) (j : Nat) :
    (s.setDrv i d).drvPkt j = if j = i then d else s.drvPkt j := by
  split
  · next e => subst e; exact State.drvPkt_setDrv_same h d
  · next e => exact State.drvPkt_setDrv_other s e d

/-- A driver record may change in all but its buffer. -/
theorem State.memories_setDrv (s : State) (i : Nat) {d : DrvPkt} (hd : d.buf = (s.drvPkt i).buf) :
    (s.setDrv i d).memories = s.memories := by
  by_cases hi : i < s.nDrv
  · refine Prod.ext rfl (funext₂ fun j k => ?_)
    simp only [State.memories, State.dbuf, State.drvPkt_setDrv hi, State.setDrv_epoch]
    split
    · next e => rw [e, hd]
    · rfl
  · rw [State.setDrv_outside hi]

@[simp] theorem State.memories_setFlags (s : State) (p : PktId) (f : Byte) :
    (s.setFlags p f).memories = s.memories := by
  cases p with
  | drv i => exact s.memories_setDrv i rfl
  | app h => rfl

@[simp] theorem State.memories_setFlagsLength (s : State) (p : PktId) (f : Byte) (n : Half) :
    (s.setFlagsLength p f n).memories = s.memories := by
  cases p with
  | drv i => exact s.memories_setDrv i rfl
  | app h => rfl

@[simp] theorem State.memories_setLength (s : State) (p : PktId) (n : Half) :
    (s.setLength p n).memories = s.memories := by
  cases p with
  | drv i => exact s.memories_setDrv i rfl
  | app h => rfl

/-- The byte at the end of a driver packet is the only one a store changes (R164, R229). -/
theorem State.dbuf_storeDrv {s : State} {i : Nat} (h : i < s.nDrv) (b : Byte) (j k : Nat) :
    (s.storeDrv i b).dbuf j k = if j = i ∧ k = (s.drvPkt i).length.toNat then b else s.dbuf j k := by
  simp only [State.dbuf, State.storeDrv, State.drvPkt_setDrv h, State.setDrv_epoch]
  by_cases hj : j = i
  · subst hj
    by_cases hk : k = (s.drvPkt j).length.toNat <;> simp [hk, Memory.find_put]
  · simp [hj]

/-- A write of one byte of host memory, read back (R73, R74). -/
theorem State.memByte_put (s : State) (a : Nat) (b : Byte) (c : Nat) :
    State.memByte { s with mem := s.mem.put a b } c = if c = a then b else s.memByte c := by
  simp only [State.memByte, Memory.find_put]
  split <;> rfl

/-! ### Commands -/

/-- Each check of a command (R147, R260, R291) is a choice between a bare result and the command's body. -/
theorem State.memories_ite {c : Prop} [Decidable c] {s t u : State} (ht : t.memories = s.memories)
    (hu : u.memories = s.memories) : (if c then t else u).memories = s.memories := by
  split
  · exact ht
  · exact hu

theorem State.memories_queueSlot (s : State) (a flags : Byte) : (s.queueSlot a flags).memories = s.memories := rfl

theorem State.memories_armSlot (s : State) (a : Byte) : (s.armSlot a).memories = s.memories := rfl

theorem State.memories_releaseSlot (s : State) (a : Byte) : (s.releaseSlot a).memories = s.memories := rfl

theorem State.memories_readHeld (s : State) (i : Byte) : (s.readHeld i).memories = s.memories :=
  State.memories_ite rfl rfl

theorem State.memories_freeHeld (s : State) (i : Byte) : (s.freeHeld i).memories = s.memories :=
  s.memories_setFlagsLength (.drv (slotOfA i)) 0x00 0

theorem State.memories_bldFinish (s : State) (last : Bool) (i : Nat) : (s.bldFinish last i).memories = s.memories :=
  s.memories_setFlags (.drv i) _

theorem State.memories_bldFlush (s : State) : s.bldFlush.memories = s.memories := by
  cases hb : s.bld.pkt with
  | none => rw [State.bldFlush_none hb]
  | some i => rw [State.bldFlush_some hb, State.memories_bldFinish]

theorem State.memories_bldOpen (s : State) (i : Nat) (f : Byte) : (s.bldOpen i f).memories = s.memories :=
  s.memories_setFlagsLength (.drv i) f 0

theorem State.nDrv_bldOpen (s : State) (i : Nat) (f : Byte) : (s.bldOpen i f).nDrv = s.nDrv := State.nDrv_setDrv s _ _

theorem State.length_bldOpen {s : State} {i : Nat} (h : i < s.nDrv) (f : Byte) :
    ((s.bldOpen i f).drvPkt i).length = 0 :=
  State.lengthOf_setFlagsLength (p := .drv i) h f 0

/-- A byte stored in a fragment is the only byte that changes, whether the fragment stays open or is handed over. -/
theorem State.dbuf_bldStore {s : State} {i : Nat} (h : i < s.nDrv) (b : Byte) (j k : Nat) :
    (s.bldStore i b).dbuf j k = if j = i ∧ k = (s.drvPkt i).length.toNat then b else s.dbuf j k := by
  obtain ⟨val, fl, len, eq⟩ := State.bldStore_eq h b
  rw [eq, ← State.dbuf_storeDrv h]
  split
  · exact State.dbuf_eq (State.memories_bldFinish _ _ _) j k
  · rfl

/-- The place an APPEND fills: the end of the open fragment, or offset 0 of the one it opens (R164, R71). -/
def State.AppendsAt (s : State) (i k : Nat) : Prop :=
  s.bld.pkt = some i ∧ k = (s.drvPkt i).length.toNat ∨ s.bld.pkt = none ∧ s.freeq.head? = some i ∧ k = 0

theorem State.Ok.append_dbuf {s : State} (h : s.Ok) (b : Byte) (j k : Nat) :
    (s.append b).dbuf j k = s.dbuf j k ∨ (s.append b).dbuf j k = b ∧ s.AppendsAt j k := by
  unfold State.append
  rcases s.bldLazy_cases with ⟨i, hb, eq⟩ | ⟨i, rest, hb, hq, eq⟩ | ⟨-, -, eq⟩ <;> rw [eq]
  · have hi : i < s.nDrv := h.placed.slots (.drv i) (by simp [State.places, hb])
    simp only [State.dbuf_bldStore hi]
    split
    · next hfill =>
      obtain ⟨rfl, hk⟩ := hfill
      exact .inr ⟨rfl, .inl ⟨hb, hk⟩⟩
    · exact .inl rfl
  · have hi : i < s.nDrv := h.placed.slots (.drv i) (by simp [State.places, hq])
    have hopen : i < State.nDrv { s with freeq := rest } := hi
    simp only [State.dbuf_bldStore ((State.nDrv_bldOpen _ i _).symm ▸ hopen), State.length_bldOpen hopen]
    split
    · next hfill =>
      obtain ⟨rfl, hk⟩ := hfill
      exact .inr ⟨rfl, .inr ⟨hb, by simp [hq], hk⟩⟩
    · exact .inl (State.dbuf_eq (State.memories_bldOpen _ _ _) j k)
  · exact .inl rfl

/-- The inference sets only BLD_CARRY (R165). -/
theorem State.infer_eq (s : State) (b : Byte) :
    ∃ carry, s.infer b = { s with bld := { s.bld with carry := carry } } := by
  unfold State.infer
  split
  · exact ⟨_, rfl⟩
  · exact ⟨s.bld.carry, rfl⟩

/-- APPEND_INFER fills the same place as APPEND_BYTE (R165). -/
theorem State.Ok.appendInfer_dbuf {s : State} (h : s.Ok) (b : Byte) (j k : Nat) :
    ((s.infer b).append b).dbuf j k = s.dbuf j k ∨ ((s.infer b).append b).dbuf j k = b ∧ s.AppendsAt j k := by
  obtain ⟨carry, eq⟩ := s.infer_eq b
  have filled := (h.infer b).append_dbuf b j k
  rw [eq] at filled ⊢
  exact filled

theorem execStartOutgoing_memories {s t : State} {usage : Byte} (ht : execStartOutgoing usage s = .next t) :
    t.memories = s.memories := by
  unfold execStartOutgoing at ht
  extract_lets s1 bld s2 flags at ht
  split at ht <;> cases ht
  · exact s.memories_bldFlush
  · exact (State.memories_bldOpen _ _ _).trans s.memories_bldFlush

theorem execRxCollect_memories {s t : State} (ht : execRxCollect s = .next t) : t.memories = s.memories := by
  unfold execRxCollect at ht
  split at ht <;> cases ht <;> rfl

/-- The memories are as before after every command but the two APPENDs. -/
theorem exec_memories {c : Instr} {s t : State} (hc : ∀ b, c ≠ .appendByte b ∧ c ≠ .appendInfer b)
    (ht : exec c s = .next t) : t.memories = s.memories := by
  cases c with
  | nop => cases ht; rfl
  | startOutgoing usage => exact execStartOutgoing_memories ht
  | appendByte b => exact absurd rfl (hc b).1
  | appendInfer b => exact absurd rfl (hc b).2
  | flush => cases ht; exact s.memories_bldFlush
  | queueTx a flags => cases ht; exact State.memories_ite rfl (State.memories_ite rfl (s.memories_queueSlot a flags))
  | armRx a => cases ht; exact State.memories_ite rfl (State.memories_ite rfl (s.memories_armSlot a))
  | isTxDone a => cases ht; exact State.memories_ite rfl rfl
  | isRxDone a => cases ht; exact State.memories_ite rfl rfl
  | release a => cases ht; exact State.memories_ite rfl (State.memories_ite rfl (s.memories_releaseSlot a))
  | rxCollect => exact execRxCollect_memories ht
  | rxReadByte a => cases ht; exact State.memories_ite (s.memories_readHeld a) rfl
  | rxFree a => cases ht; exact State.memories_ite (s.memories_freeHeld a) rfl
  | setActive bit => cases ht; rfl
  | queryActive => cases ht; rfl

/-- A driver buffer changes only by an APPEND's operand, where that APPEND fills (R71). -/
theorem State.Ok.exec_dbuf {c : Instr} {s t : State} (h : s.Ok) (ht : Machine.exec c s = .next t) (i k : Nat) :
    t.dbuf i k = s.dbuf i k ∨ ∃ b, (c = .appendByte b ∨ c = .appendInfer b) ∧ t.dbuf i k = b ∧ s.AppendsAt i k := by
  cases c with
  | appendByte b => cases ht; exact (h.append_dbuf b i k).imp id fun filled => ⟨b, .inl rfl, filled⟩
  | appendInfer b => cases ht; exact (h.appendInfer_dbuf b i k).imp id fun filled => ⟨b, .inr rfl, filled⟩
  | _ => exact .inl (State.dbuf_eq (exec_memories (by simp) ht) i k)

/-- A word that is no command leaves the memories alone too (R303). -/
theorem State.Ok.runCommand_dbuf {w : Word} {s t : State} (h : s.Ok) (ht : s.runCommand w = .next t) (i k : Nat) :
    t.dbuf i k = s.dbuf i k ∨
      ∃ b, (decode w = .ok (.appendByte b) ∨ decode w = .ok (.appendInfer b)) ∧ t.dbuf i k = b ∧ s.AppendsAt i k := by
  unfold State.runCommand at ht
  split at ht
  · next c hw =>
    rw [hw]
    simpa only [Except.ok.injEq] using h.exec_dbuf ht i k
  · cases ht; exact .inl rfl

/-- No command writes host memory (R72). -/
theorem State.runCommand_mem {w : Word} {s t : State} (ht : s.runCommand w = .next t) : t.mem = s.mem := by
  unfold State.runCommand at ht
  split at ht
  · have outside := exec_outside ht
    simp only [State.outside, Prod.mk.injEq] at outside
    obtain ⟨-, -, -, mem, -⟩ := outside
    exact mem
  · cases ht; rfl

end Sys2Proof.Machine
end

section
/-! PROOFS. What a turn of the foreground, of TXE and of RXE does to host memory and the driver buffers (20_memory.md R71 to
R86). -/

namespace Sys2Proof.Machine

/-! ### The foreground -/

theorem State.writeReg_cases {s t : State} {off : Nat} {v : Word} (ht : s.writeReg off v = .next t) :
    off = 0 ∧ s.writeCmd v = .next t ∨ ∃ r, t = { s with regs := r } := by
  unfold State.writeReg at ht
  split at ht
  · next hoff => exact .inl ⟨hoff, ht⟩
  · split at ht
    · cases ht; exact .inr ⟨_, rfl⟩
    · split at ht <;> cases ht
      · exact .inr ⟨_, rfl⟩
      · exact .inr ⟨s.regs, rfl⟩

/-- A register write that is taken is a CMD write at REG_BASE, or changes only registers (R43, R81). -/
theorem State.regWrite_cases {s t : State} {addr size : Nat} {v : Word} (ht : s.regWrite addr size v = .next t) :
    addr = s.cfg.regBase ∧ size = 4 ∧ s.writeCmd v = .next t ∨ ∃ r, t = { s with regs := r } := by
  unfold State.regWrite at ht
  split at ht
  · next htouch =>
    split at ht
    · next halign =>
      obtain ⟨rfl, k, -, rfl⟩ := State.word_of_alignedAccess halign (State.touchesWindow_iff.1 htouch).1
      refine (State.writeReg_cases ht).imp (fun ⟨hoff, hcmd⟩ => ⟨by omega, rfl, hcmd⟩) id
    · cases ht
  · cases ht

theorem State.regRead_cases {s t : State} {addr size : Nat} (ht : s.regRead addr size = .next t) :
    ∃ v, t = s.sees v := by
  unfold State.regRead at ht
  split at ht
  · split at ht <;> cases ht
    exact ⟨_, rfl⟩
  · cases ht

theorem decode_isTxDone (h : Byte) : decode (encode (.isTxDone h)) = .ok (.isTxDone h) := by
  simp only [decode, encode, assemble, fieldRSV_fourBytes, fieldOP_fourBytes, fieldA_fourBytes]
  rfl

theorem decode_isRxDone (h : Byte) : decode (encode (.isRxDone h)) = .ok (.isRxDone h) := by
  simp only [decode, encode, assemble, fieldRSV_fourBytes, fieldOP_fourBytes, fieldA_fourBytes]
  rfl

/-- Only the foreground's own registers and lists and the oracle's count differ. -/
def State.SameButForeground (s t : State) : Prop := ∃ f r o, t = { s with fg := f, regs := r, oracle := o }

/-- A predicate behind its handle check writes only the result (R263, R264, R267). -/
theorem State.sameButForeground_predicate (s : State) (h : Byte) (forRx : Bool) :
    s.SameButForeground (s.checkHandle h (s.predicate h forRx)) := by
  unfold State.checkHandle
  split <;> exact ⟨_, _, _, rfl⟩

theorem State.sameButForeground_pollCheck (s : State) (again : HostOp) :
    s.SameButForeground (s.pollCheck again) := by
  unfold State.pollCheck
  extract_lets s1
  split <;> exact ⟨_, _, _, rfl⟩

/-- An access is a CMD write, a byte write, or changes nothing but the foreground, the host registers and the oracle. -/
theorem State.access_cases {s t : State} {op : HostOp} (ht : s.access op = .next t) :
    (∃ w, op = .regWrite s.cfg.regBase 4 w ∧ s.writeCmd w = .next t) ∨
      (∃ a b, op = .poke a b ∧ t = s.hostWrite a b) ∨ s.SameButForeground t := by
  cases op with
  | regWrite addr size v =>
    obtain ⟨rfl, rfl, hcmd⟩ | ⟨r, rfl⟩ := State.regWrite_cases ht
    · exact .inl ⟨v, rfl, hcmd⟩
    · exact .inr (.inr ⟨s.fg, r, s.oracle, rfl⟩)
  | regRead addr size =>
    obtain ⟨v, rfl⟩ := State.regRead_cases ht
    exact .inr (.inr ⟨_, _, _, rfl⟩)
  | poke a b => exact .inr (.inl ⟨a, b, rfl, (State.poke_eq_next.1 ht).2.symm⟩)
  | peek a =>
    obtain ⟨-, rfl⟩ := State.peek_eq_next.1 ht
    rcases s.hostRead_cases a with ⟨-, -, eq⟩ | eq <;> exact .inr (.inr ⟨_, _, _, eq⟩)
  | pollTx h =>
    simp only [State.access, State.writeCmd, State.runCommand, decode_isTxDone] at ht
    cases ht
    obtain ⟨f, r, o, eq⟩ := State.sameButForeground_predicate _ h false
    exact .inr (.inr ⟨f, r, o, eq⟩)
  | pollRx h =>
    simp only [State.access, State.writeCmd, State.runCommand, decode_isRxDone] at ht
    cases ht
    obtain ⟨f, r, o, eq⟩ := State.sameButForeground_predicate _ h true
    exact .inr (.inr ⟨f, r, o, eq⟩)
  | pollTxRead h => cases ht; exact .inr (.inr (s.sameButForeground_pollCheck _))
  | pollRxRead h => cases ht; exact .inr (.inr (s.sameButForeground_pollCheck _))

/-- The word is the foreground's outstanding command, or the one its next access writes (R43). -/
def State.Issues (s : State) (w : Word) : Prop :=
  s.fg.cmdPort = some w ∨ s.fg.cmdPort = none ∧ ∃ rest, s.fg.ops = .regWrite s.cfg.regBase 4 w :: rest

/-- A turn of the foreground runs the command it issues, writes a byte of host memory, or changes nothing but the
foreground, the host registers and the oracle. -/
theorem State.fgTurn_cases {s t : State} (ht : s.fgTurn = .next t) :
    (∃ w f, s.Issues w ∧ State.runCommand { s with fg := f } w = .next t) ∨
      (∃ a b rest, s.fg.cmdPort = none ∧ s.fg.ops = .poke a b :: rest ∧
        t = State.hostWrite { s with fg := { s.fg with ops := rest } } a b) ∨ s.SameButForeground t := by
  unfold State.fgTurn at ht
  split at ht
  · next w hcmd => exact .inl ⟨w, s.fg, .inl hcmd, ht⟩
  · next hcmd =>
    split at ht
    · cases ht; exact .inr (.inr ⟨s.fg, s.regs, s.oracle, rfl⟩)
    · next op rest hops =>
      obtain ⟨w, rfl, hrun⟩ | ⟨a, b, rfl, rfl⟩ | ⟨f, r, o, rfl⟩ := State.access_cases ht
      · exact .inl ⟨w, _, .inr ⟨hcmd, rest, hops⟩, hrun⟩
      · exact .inr (.inl ⟨a, b, rest, hcmd, hops, rfl⟩)
      · exact .inr (.inr ⟨f, r, o, rfl⟩)

/-- The byte of host memory a foreground write may change is the one written, at an admitted address. -/
theorem State.hostWrite_find {s : State} {a c : Nat} {b : Byte} (h : (s.hostWrite a b).mem.find c ≠ s.mem.find c) :
    c = a ∧ s.admits a = true := by
  rcases s.hostWrite_cases a b with eq | ⟨ha, ⟨-, eq⟩ | ⟨-, eq⟩⟩ <;> rw [eq] at h
  · exact absurd rfl h
  · exact ⟨by_contra fun hc => h (Memory.find_put_other _ _ hc), ha⟩
  · exact ⟨by_contra fun hc => h (Memory.find_put_other _ _ hc), ha⟩

theorem State.hostWrite_dbuf (s : State) (a : Nat) (b : Byte) : (s.hostWrite a b).dbuf = s.dbuf := by
  rcases s.hostWrite_cases a b with eq | ⟨-, ⟨-, eq⟩ | ⟨-, eq⟩⟩ <;> rw [eq] <;> rfl

/-! ### The engines -/

/-- No step of TXE writes a memory: it reads them (R200). -/
theorem State.txStep_memories {s t : State} (ht : s.txStep = some t) : t.memories = s.memories := by
  unfold State.txStep at ht
  cases hst : s.tx.state <;> simp only [hst, Option.some.injEq, Option.map_eq_some_iff, Option.bind_eq_some_iff] at ht
  case idle =>
    subst ht
    unfold State.txIdle
    split <;> rfl
  case sentFlags =>
    obtain ⟨p, -, ht⟩ := ht
    unfold State.txIndexOrSize at ht
    split at ht
    · obtain ⟨x, -, rfl⟩ := Option.map_eq_some_iff.1 ht
      rfl
    · cases ht; rfl
  case sentSize2 | sentData =>
    obtain ⟨p, -, ht⟩ := ht
    obtain ⟨b, -, ⟨-, rfl⟩ | ⟨-, rfl⟩⟩ := State.txData_eq_some ht <;> rfl
  case sentAllData =>
    obtain ⟨p, -, rfl⟩ := ht
    cases p with
    | drv i => exact (s.emit markEND).memories_setFlags (.drv i) _
    | app h => rfl
  case sentStart | sentIndex | sentSize1 | sentEsc =>
    obtain ⟨p, -, rfl⟩ := ht
    rfl

theorem State.memories_txTurn (s : State) : s.txTurn.memories = s.memories := by
  rcases s.txTurn_cases with eq | ⟨-, -, ht⟩
  · rw [eq]
  · exact State.txStep_memories ht

theorem State.memories_rxAbort (s : State) : s.rxAbort.memories = s.memories := by
  unfold State.rxAbort
  rcases s.rx.pkt with _ | ⟨i⟩ | ⟨h⟩
  · rfl
  · exact s.memories_setFlagsLength (.drv i) 0x00 0
  · rfl

theorem State.memories_rxBind (s : State) (p : PktId) : (s.rxBind p).memories = s.memories :=
  s.memories_setFlagsLength p _ 0

theorem State.memories_rxComplete (s : State) (p : PktId) : (s.rxComplete p).memories = s.memories := by
  cases p with
  | drv i => exact s.memories_setFlags (.drv i) _
  | app h => rfl

theorem State.memories_rxTakeFlags (s : State) (b : Byte) : (s.rxTakeFlags b).memories = s.memories := by
  unfold State.rxTakeFlags
  extract_lets x s1
  refine State.memories_ite rfl ?_
  split
  · exact s1.memories_rxAbort
  · exact State.memories_rxBind _ _

theorem State.memories_rxTakeIndex (s : State) (b : Byte) : (s.rxTakeIndex b).memories = s.memories :=
  State.memories_ite s.memories_rxAbort (s.memories_rxBind _)

theorem State.memories_rxSizeHigh (s : State) (p : PktId) (b : Byte) : (s.rxSizeHigh p b).memories = s.memories :=
  State.memories_ite (State.memories_rxAbort _) rfl

theorem State.memories_rxEnd (s : State) (p : PktId) (b : Byte) : (s.rxEnd p b).memories = s.memories :=
  State.memories_ite (c := b = markEND) (s.memories_rxComplete p) s.memories_rxAbort

/-- The only step of RXE that writes a memory is a payload store (R229). -/
theorem State.rxStep_cases {s t : State} {b : Byte} (ht : s.rxStep b = some t) :
    t.memories = s.memories ∨ (s.rx.state = .awaitData ∨ s.rx.state = .awaitDataEsc) ∧
      ∃ p, s.rx.pkt = some p ∧ s.rxStore p b = some t := by
  unfold State.rxStep at ht
  cases hst : s.rx.state <;> simp only [hst, Option.some.injEq, Option.map_eq_some_iff, Option.bind_eq_some_iff] at ht
  case awaitStart => subst ht; exact .inl (State.memories_ite rfl rfl)
  case awaitFlags => exact .inl (ht ▸ s.memories_rxTakeFlags b)
  case awaitIndex => exact .inl (ht ▸ s.memories_rxTakeIndex b)
  case awaitSize1 => subst ht; exact .inl rfl
  case awaitSize2 =>
    obtain ⟨p, -, rfl⟩ := ht
    exact .inl (s.memories_rxSizeHigh p b)
  case awaitDataEsc =>
    obtain ⟨p, hp, ht⟩ := ht
    unfold State.rxDataEsc at ht
    split at ht
    · cases ht; exact .inl rfl
    · exact .inr ⟨.inr rfl, p, hp, ht⟩
  case awaitData =>
    obtain ⟨p, hp, ht⟩ := ht
    exact .inr ⟨.inl rfl, p, hp, ht⟩
  case awaitEnd =>
    obtain ⟨p, -, rfl⟩ := ht
    exact .inl (s.memories_rxEnd p b)

/-- A payload byte of a driver packet goes to the end of its buffer (R229). -/
theorem State.rxStore_drv {s : State} {i : Nat} (h : i < s.nDrv) (b : Byte) :
    s.rxStore (.drv i) b = some { s.storeDrv i b with rx := s.rx.stored } := by
  rw [← State.setLength_setDbuf h]
  rfl

/-- A payload byte of an application packet goes to the next address of its buffer, which is admitted (R229, R74). -/
theorem State.rxStore_app {s t : State} {g : Nat} {b : Byte} (ht : s.rxStore (.app g) b = some t) :
    s.admits (s.hostAddr (s.appPkt g).buffer (s.appPkt g).length.toNat) = true ∧
      t.memories = (s.mem.put (s.hostAddr (s.appPkt g).buffer (s.appPkt g).length.toNat) b, s.dbuf) := by
  obtain ⟨s1, hw, rfl⟩ := State.rxStore_eq_some ht
  obtain ⟨ha, rfl⟩ := State.memWrite_eq_some.1 hw
  exact ⟨ha, rfl⟩

/-- A turn of RXE leaves the memories alone, or stores the byte presented in the packet it is receiving. -/
theorem State.rxTurn_memories (s : State) :
    s.rxTurn.memories = s.memories ∨ (s.rx.state = .awaitData ∨ s.rx.state = .awaitDataEsc) ∧
      ∃ p b, s.rx.pkt = some p ∧ s.link.rxData = some b ∧ s.takeByte.rxStore p b = some s.rxTurn := by
  rcases s.rxTurn_cases with eq | ⟨b, hb, ht⟩
  · exact .inl (congrArg State.memories eq)
  · exact (State.rxStep_cases ht).imp id fun ⟨hst, p, hp, hstore⟩ => ⟨hst, p, b, hp, hb, hstore⟩

end Sys2Proof.Machine
end

section
/-! PROOFS. Who writes host memory (20_memory.md R72 to R86) and the driver buffers (R71): the steps of the machine. -/

namespace Sys2Proof.Machine

/-! ### Steps -/

/-- Taking a draw changes the oracle only (R332). -/
theorem State.afterDraw_eq (s : State) : ∃ o, s.afterDraw = { s with oracle := o } := by
  unfold State.afterDraw
  split <;> exact ⟨_, rfl⟩

theorem State.memories_linkPresent (s : State) : s.linkPresent.memories = s.memories := by
  unfold State.linkPresent
  split <;> rfl

/-- RXE's store in host memory (R229): the byte presented, at the next address of the bound application buffer. -/
theorem State.rxTurn_find {s : State} {a : Nat} (h : s.rxTurn.mem.find a ≠ s.mem.find a) :
    s.admits a = true ∧ (s.rx.state = .awaitData ∨ s.rx.state = .awaitDataEsc) ∧ ∃ g, s.rx.pkt = some (.app g) ∧
      a = s.hostAddr (s.appPkt g).buffer (s.appPkt g).length.toNat ∧ s.rxTurn.mem.find a = s.link.rxData := by
  obtain same | ⟨hst, p, b, hp, hb, hstore⟩ := s.rxTurn_memories
  · exact absurd (congrArg (Memory.find · a) (State.mem_eq same)) h
  · cases p with
    | drv i =>
      obtain ⟨s1, hw, eq⟩ := State.rxStore_eq_some hstore
      cases hw
      exact absurd (congrArg (fun t => t.mem.find a) eq) h
    | app g =>
      obtain ⟨hadmits, stored⟩ := State.rxStore_app hstore
      have hmem : s.rxTurn.mem = s.mem.put (s.hostAddr (s.appPkt g).buffer (s.appPkt g).length.toNat) b :=
        congrArg Prod.fst stored
      rw [hmem] at h ⊢
      obtain rfl : a = s.hostAddr (s.appPkt g).buffer (s.appPkt g).length.toNat :=
        by_contra fun hne => h (Memory.find_put_other _ _ hne)
      exact ⟨hadmits, hst, g, hp, rfl, (Memory.find_put_same _ _ _).trans hb.symm⟩

/-- The foreground's write of host memory (R83). -/
theorem State.fgTurn_find {s t : State} {a : Nat} (ht : s.fgTurn = .next t) (h : t.mem.find a ≠ s.mem.find a) :
    s.admits a = true ∧ s.fg.cmdPort = none ∧ ∃ b rest, s.fg.ops = .poke a b :: rest := by
  obtain ⟨w, f, -, hrun⟩ | ⟨c, b, rest, hcmd, hops, rfl⟩ | ⟨f, r, o, rfl⟩ := State.fgTurn_cases ht
  · exact absurd (congrArg (Memory.find · a) (State.runCommand_mem hrun)) h
  · obtain ⟨rfl, ha⟩ := State.hostWrite_find h
    exact ⟨ha, hcmd, b, rest, hops⟩
  · exact absurd rfl h

/-- What a turn that changes a byte of host memory is (R72, R83). -/
theorem State.turn_find {s t : State} {d : Draw} {a : Nat} (ht : s.turn d = .next t)
    (h : t.mem.find a ≠ s.mem.find a) :
    s.admits a = true ∧
      ((d = .rxe ∧ (s.rx.state = .awaitData ∨ s.rx.state = .awaitDataEsc) ∧ ∃ g, s.rx.pkt = some (.app g) ∧
          a = s.hostAddr (s.appPkt g).buffer (s.appPkt g).length.toNat ∧ t.mem.find a = s.link.rxData) ∨
        (d = .fg ∧ s.fg.cmdPort = none ∧ ∃ b rest, s.fg.ops = .poke a b :: rest)) := by
  cases d with
  | fg =>
    obtain ⟨ha, hpoke⟩ := State.fgTurn_find ht h
    exact ⟨ha, .inr ⟨rfl, hpoke⟩⟩
  | rxe =>
    cases ht
    obtain ⟨ha, hstore⟩ := State.rxTurn_find h
    exact ⟨ha, .inl ⟨rfl, hstore⟩⟩
  | txe => cases ht; exact absurd (congrArg (Memory.find · a) (State.mem_eq s.memories_txTurn)) h
  | linkByte => cases ht; exact absurd (congrArg (Memory.find · a) (State.mem_eq s.memories_linkPresent)) h
  | linkReady r => cases ht; exact absurd rfl h
  | reset => cases ht; exact absurd rfl h

/-! ### The foreground's own accesses outside the buffers of busy slots -/

/-- An address of a buffer is one of its payload bytes' (R75). -/
theorem State.exists_hostAddr_of_inBuffer {s : State} {h a : Nat} (ha : a < 2 ^ s.cfg.addrW)
    (hin : s.inBuffer h a = true) : ∃ k < (s.appPkt h).capacity.toNat, a = s.hostAddr (s.appPkt h).buffer k := by
  refine ⟨_, of_decide_eq_true hin, ?_⟩
  have hlt := Nat.mod_lt (s.appPkt h).buffer.toNat (Nat.two_pow_pos s.cfg.addrW)
  rw [State.hostAddr, Nat.add_mod_mod, ← Nat.mod_add_mod, Nat.add_sub_of_le (by omega), Nat.add_mod_right,
    Nat.mod_eq_of_lt ha]

theorem State.lt_of_admits {s : State} {a : Nat} (h : s.admits a = true) : a < 2 ^ s.cfg.addrW := by
  simp only [State.admits, Bool.and_eq_true, decide_eq_true_eq] at h
  exact h.1.1

/-- An admitted address that is a payload byte of no busy slot's buffer is not raced (R86). -/
theorem State.not_raced {s : State} {a : Nat} (ha : s.admits a = true)
    (hout : ∀ h ∈ s.appPlaces, h < s.nApp → ∀ k < (s.appPkt h).capacity.toNat,
      a ≠ s.hostAddr (s.appPkt h).buffer k) : s.raced a = false := by
  refine List.any_eq_false.2 fun h hh hraced => ?_
  obtain ⟨hbusy, hin⟩ := Bool.and_eq_true_iff.1 hraced
  obtain ⟨k, hk, hak⟩ := State.exists_hostAddr_of_inBuffer (State.lt_of_admits ha) hin
  exact hout h (State.busy_iff_mem_appPlaces.1 hbusy) (List.mem_range.1 hh) k hk hak

/-- With no command outstanding, the foreground makes its next access. -/
theorem State.fgTurn_access {s : State} {op : HostOp} {rest : List HostOp} (hcmd : s.fg.cmdPort = none)
    (hops : s.fg.ops = op :: rest) : s.fgTurn = State.access { s with fg := { s.fg with ops := rest } } op := by
  unfold State.fgTurn
  rw [hcmd, hops]

theorem State.hostWrite_of_not_raced {s : State} {a : Nat} (ha : s.admits a = true) (hr : s.raced a = false)
    (b : Byte) : s.hostWrite a b = { s with mem := s.mem.put a b } := by
  simp [State.hostWrite, ha, hr]

theorem State.hostRead_of_not_raced {s : State} {a : Nat} (ha : s.admits a = true) (hr : s.raced a = false) :
    s.hostRead a = s.sees ((0 : BitVec 24) ++ s.memByte a) := by
  have hword : (s.memByte a).setWidth 32 = (0 : BitVec 24) ++ s.memByte a := BitVec.setWidth_eq_append (by decide)
  simp [State.hostRead, ha, hr, hword]

/-- A foreground write outside the buffers of busy slots stores its byte (R83, R86). -/
theorem State.fgTurn_poke {s : State} {a : Nat} {b : Byte} {rest : List HostOp} (hcmd : s.fg.cmdPort = none)
    (hops : s.fg.ops = .poke a b :: rest) (ha : s.admits a = true) (hr : s.raced a = false) :
    s.fgTurn = .next { s with fg := { s.fg with ops := rest }, mem := s.mem.put a b } := by
  rw [State.fgTurn_access hcmd hops]
  exact State.poke_eq_next.2 ⟨State.inWindow_of_admits ha,
    State.hostWrite_of_not_raced (s := { s with fg := { s.fg with ops := rest } }) ha hr b⟩

/-- A foreground read outside the buffers of busy slots shows what memory holds (R84, R86). -/
theorem State.fgTurn_peek {s : State} {a : Nat} {rest : List HostOp} (hcmd : s.fg.cmdPort = none)
    (hops : s.fg.ops = .peek a :: rest) (ha : s.admits a = true) (hr : s.raced a = false) :
    s.fgTurn = .next { s with
      fg := { s.fg with ops := rest, seen := s.fg.seen ++ [(0 : BitVec 24) ++ s.memByte a] } } := by
  rw [State.fgTurn_access hcmd hops]
  exact State.peek_eq_next.2 ⟨State.inWindow_of_admits ha, State.hostRead_of_not_raced ha hr⟩

/-- Settles O46: the foreground's access is not raced, and a turn that changes a byte is one of the two. -/
theorem hostMemoryWriters : Obligations.HostMemoryWriters := by
  refine ⟨fun s a rest hd hcmd ha hout => ?_, fun s t a ht hne => ?_⟩
  · have hr := State.not_raced ha hout
    obtain ⟨o, ho⟩ := s.afterDraw_eq
    rw [step, hd, ho]
    refine ⟨fun b hops => ⟨_, State.fgTurn_poke (s := { s with oracle := o }) hcmd hops ha hr, rfl, s.memByte_put a b⟩,
      fun hops => State.fgTurn_peek (s := { s with oracle := o }) hcmd hops ha hr⟩
  · obtain ⟨o, ho⟩ := s.afterDraw_eq
    rw [step, ho] at ht
    exact State.turn_find (s := { s with oracle := o }) ht hne

/-! ### The writers of the driver buffers -/

/-- The foreground changes a driver buffer only by running an APPEND (R71). -/
theorem State.Ok.fgTurn_dbuf {s t : State} {i k : Nat} (h : s.Ok) (ht : s.fgTurn = .next t)
    (hne : t.dbuf i k ≠ s.dbuf i k) :
    (∃ w b, s.Issues w ∧ (decode w = .ok (.appendByte b) ∨ decode w = .ok (.appendInfer b)) ∧ t.dbuf i k = b) ∧
      s.AppendsAt i k := by
  obtain ⟨w, f, hw, hrun⟩ | ⟨a, b, rest, -, -, rfl⟩ | ⟨f, r, o, rfl⟩ := State.fgTurn_cases ht
  · obtain same | ⟨b, hdecode, hbyte, hat⟩ := (h.setFg f).runCommand_dbuf hrun i k
    · exact absurd same hne
    · exact ⟨⟨w, b, hw, hdecode, hbyte⟩, hat⟩
  · exact absurd (congrFun (congrFun (State.hostWrite_dbuf _ a b) i) k) hne
  · exact absurd rfl hne

/-- RXE changes a driver buffer only by its payload store, which consumes the byte (R229, R71). -/
theorem State.Ok.rxTurn_dbuf {s : State} {i k : Nat} (h : s.Ok) (hne : s.rxTurn.dbuf i k ≠ s.dbuf i k) :
    s.rx.pkt = some (.drv i) ∧ k = (s.drvPkt i).length.toNat ∧ s.rxTurn.link.rxData = none ∧
      s.link.rxData = some (s.rxTurn.dbuf i k) := by
  obtain same | ⟨-, p, b, hp, hb, hstore⟩ := s.rxTurn_memories
  · exact absurd (State.dbuf_eq same i k) hne
  · cases p with
    | drv j =>
      have hj : j < s.nDrv := h.placed.slots (.drv j) (by simp [State.places, hp])
      rw [State.rxStore_drv (s := s.takeByte) hj, Option.some.injEq] at hstore
      have hdbuf : s.rxTurn.dbuf i k = if i = j ∧ k = (s.drvPkt j).length.toNat then b else s.dbuf i k := by
        rw [← hstore]
        exact State.dbuf_storeDrv (s := s.takeByte) hj b i k
      have hlink : s.rxTurn.link.rxData = none := by rw [← hstore]; rfl
      rw [hdbuf] at hne ⊢
      split at hne
      · next hat =>
        obtain ⟨rfl, hk⟩ := hat
        exact ⟨hp, hk, hlink, by rw [if_pos ⟨rfl, hk⟩, hb]⟩
      · exact absurd rfl hne
    | app g =>
      obtain ⟨-, stored⟩ := State.rxStore_app hstore
      exact absurd (congrFun (congrFun (congrArg Prod.snd stored) i) k) hne

/-- Settles O47: of the agents only the foreground and RXE write a driver buffer. -/
theorem driverBufferWriters : Obligations.DriverBufferWriters := by
  intro s t i k hinv ht hreset hne
  have h := (State.inv_iff.1 hinv).afterDraw
  obtain ⟨o, ho⟩ := s.afterDraw_eq
  rw [ho] at h
  rw [step, ho] at ht
  cases hd : s.nextDraw <;> rw [hd] at ht
  case fg => exact .inl ⟨rfl, h.fgTurn_dbuf ht hne⟩
  case rxe => cases ht; exact .inr ⟨rfl, h.rxTurn_dbuf hne⟩
  case txe => cases ht; exact absurd (State.dbuf_eq (State.memories_txTurn _) i k) hne
  case linkByte => cases ht; exact absurd (State.dbuf_eq (State.memories_linkPresent _) i k) hne
  case linkReady r => cases ht; exact absurd rfl hne
  case reset => exact absurd hd hreset

end Sys2Proof.Machine
end

section
/-! PROOFS. The decoder, an equation per case (30_encoding.md R103 to R106): RSV not zero, OP outside the map, and OP in
the map, where the command is the row OP names with the operands of fields A and B. What decoding, encoding and the
unused bits have to do with each other follows from these three. -/

namespace Sys2Proof

open Machine

/-! ### The rows of the opcode map -/

/-- The OP of a command's row of the opcode map (R103). -/
def Instr.opcode : Instr → Byte
  | .nop => 0x00
  | .startOutgoing _ => 0x01
  | .appendByte _ => 0x02
  | .appendInfer _ => 0x03
  | .flush => 0x04
  | .queueTx _ _ => 0x10
  | .armRx _ => 0x11
  | .isTxDone _ => 0x12
  | .isRxDone _ => 0x13
  | .release _ => 0x14
  | .rxCollect => 0x20
  | .rxReadByte _ => 0x21
  | .rxFree _ => 0x22
  | .setActive _ => 0x30
  | .queryActive => 0x31

/-- The command of the same row with its operands read from fields A and B (R102, R106). -/
def Instr.withFields (a b : Byte) : Instr → Instr
  | .nop => .nop
  | .startOutgoing _ => .startOutgoing (usageOfB b)
  | .appendByte _ => .appendByte b
  | .appendInfer _ => .appendInfer b
  | .flush => .flush
  | .queueTx _ _ => .queueTx a (flagsOfB b)
  | .armRx _ => .armRx a
  | .isTxDone _ => .isTxDone a
  | .isRxDone _ => .isRxDone a
  | .release _ => .release a
  | .rxCollect => .rxCollect
  | .rxReadByte _ => .rxReadByte a
  | .rxFree _ => .rxFree a
  | .setActive _ => .setActive (bitOfB b)
  | .queryActive => .queryActive

/-- A command of each row, in the order of the map. -/
def Instr.rows : List Instr :=
  [.nop, .startOutgoing 0, .appendByte 0, .appendInfer 0, .flush, .queueTx 0 0, .armRx 0, .isTxDone 0, .isRxDone 0,
    .release 0, .rxCollect, .rxReadByte 0, .rxFree 0, .setActive 0, .queryActive]

theorem opcodes_eq_map_rows : opcodes = Instr.rows.map Instr.opcode := rfl

@[simp] theorem Instr.opcode_withFields (a b : Byte) (i : Instr) : (i.withFields a b).opcode = i.opcode := by
  cases i <;> rfl

@[simp] theorem Instr.withFields_withFields (a b c d : Byte) (i : Instr) :
    (i.withFields c d).withFields a b = i.withFields a b := by
  cases i <;> rfl

theorem Instr.opcode_mem_opcodes (i : Instr) : i.opcode ∈ opcodes := by
  cases i <;> simp [Instr.opcode, opcodes]

theorem exists_opcode_eq {op : Byte} (h : op ∈ opcodes) : ∃ i : Instr, op = i.opcode := by
  rw [opcodes_eq_map_rows] at h
  obtain ⟨i, -, hi⟩ := List.mem_map.1 h
  exact ⟨i, hi.symm⟩

/-! ### The low bits of B -/

/-- A byte survives the mask of its low `k` bits exactly when it fits them. -/
theorem and_lowMask_eq_self_iff {b m : Byte} {k : Nat} (hm : m.toNat = 2 ^ k - 1) :
    b &&& m = b ↔ b.toNat < 2 ^ k := by
  rw [← BitVec.toNat_inj, BitVec.toNat_and, hm, Nat.and_two_pow_sub_one_eq_mod,
    Nat.mod_eq_iff_lt (Nat.two_pow_pos k).ne']

theorem usageOfB_eq_self_iff {b : Byte} : usageOfB b = b ↔ b.toNat < 4 := and_lowMask_eq_self_iff (k := 2) rfl

theorem flagsOfB_eq_self_iff {b : Byte} : flagsOfB b = b ↔ b.toNat < 16 := and_lowMask_eq_self_iff (k := 4) rfl

theorem bitOfB_eq_self_iff {b : Byte} : bitOfB b = b ↔ b.toNat < 2 := and_lowMask_eq_self_iff (k := 1) rfl

theorem and_mask_and_mask (b m : Byte) : b &&& m &&& m = b &&& m := by rw [BitVec.and_assoc, BitVec.and_self]

theorem and_fullMask (b : Byte) : b &&& 0xFF = b := BitVec.and_allOnes

/-- Operands read from a word's fields are well-formed. -/
theorem Instr.wf_withFields (a b : Byte) (i : Instr) : (i.withFields a b).wf = true := by
  cases i with
  | startOutgoing _ => exact decide_eq_true (usageOfB_eq_self_iff.1 (and_mask_and_mask b 0x03))
  | queueTx _ _ => exact decide_eq_true (flagsOfB_eq_self_iff.1 (and_mask_and_mask b 0x0F))
  | setActive _ => exact decide_eq_true (bitOfB_eq_self_iff.1 (and_mask_and_mask b 0x01))
  | _ => rfl

/-! ### The decoder -/

/-- R104. -/
theorem decode_of_reserved {w : Word} (h : fieldRSV w ≠ 0) : decode w = .error .reservedBits := if_pos h

/-- R105. -/
theorem decode_of_not_mem_opcodes {w : Word} (hrsv : fieldRSV w = 0) (h : fieldOP w ∉ opcodes) :
    decode w = .error (.illegalOpcode (fieldOP w)) := by
  simp only [opcodes, List.mem_cons, List.not_mem_nil, not_or] at h
  simp only [decode, hrsv, h, ne_eq, not_true, if_false]

/-- R103, R106: OP alone selects the row. -/
theorem decode_of_opcode {w : Word} {i : Instr} (hrsv : fieldRSV w = 0) (hop : fieldOP w = i.opcode) :
    decode w = .ok (i.withFields (fieldA w) (fieldB w)) := by
  cases i <;> simp [decode, hrsv, hop, Instr.opcode, Instr.withFields]

/-- What decodes to a command: RSV is 0, OP is the command's, and its operands are those of the word. -/
theorem decode_eq_ok_iff {w : Word} {i : Instr} :
    decode w = .ok i ↔ fieldRSV w = 0 ∧ fieldOP w = i.opcode ∧ i.withFields (fieldA w) (fieldB w) = i := by
  constructor
  · intro h
    by_cases hrsv : fieldRSV w = 0
    · by_cases hmem : fieldOP w ∈ opcodes
      · obtain ⟨j, hj⟩ := exists_opcode_eq hmem
        rw [decode_of_opcode hrsv hj, Except.ok.injEq] at h
        subst h
        exact ⟨hrsv, by rwa [Instr.opcode_withFields], Instr.withFields_withFields _ _ _ _ j⟩
      · rw [decode_of_not_mem_opcodes hrsv hmem] at h
        cases h
    · rw [decode_of_reserved hrsv] at h
      cases h
  · rintro ⟨hrsv, hop, hi⟩
    rw [decode_of_opcode hrsv hop, hi]

/-- R104, R105: which words are commands. -/
theorem exists_decode_eq_ok_iff {w : Word} :
    (∃ i, decode w = .ok i) ↔ fieldRSV w = 0 ∧ fieldOP w ∈ opcodes := by
  constructor
  · rintro ⟨i, h⟩
    obtain ⟨hrsv, hop, -⟩ := decode_eq_ok_iff.1 h
    exact ⟨hrsv, hop ▸ i.opcode_mem_opcodes⟩
  · rintro ⟨hrsv, hmem⟩
    obtain ⟨i, hi⟩ := exists_opcode_eq hmem
    exact ⟨_, decode_of_opcode hrsv hi⟩

theorem exists_decode_eq_error_iff {w : Word} :
    (∃ r, decode w = .error r) ↔ fieldRSV w ≠ 0 ∨ fieldOP w ∉ opcodes := by
  rw [ne_eq, ← not_and_or, ← exists_decode_eq_ok_iff]
  cases decode w <;> simp

theorem wf_of_decode {w : Word} {i : Instr} (h : decode w = .ok i) : i.wf = true := by
  obtain ⟨-, -, hi⟩ := decode_eq_ok_iff.1 h
  exact hi ▸ i.wf_withFields _ _

/-! ### The encoder -/

/-- A word of the command's OP, whatever its A and B, is the command of that row with their operands (R101, R103). -/
theorem decode_cmdWord (i : Instr) (a b : Byte) : decode (cmdWord b a i.opcode) = .ok (i.withFields a b) := by
  rw [decode_of_opcode (i := i) (fieldRSV_fourBytes _ _ _ _) (fieldOP_fourBytes _ _ _ _), fieldA_fourBytes,
    fieldB_fourBytes]

/-- The encoder puts OP and RSV = 0 around the operands (R101). -/
theorem encode_eq_cmdWord (i : Instr) : encode i = cmdWord (fieldB (encode i)) (fieldA (encode i)) i.opcode := by
  cases i <;> simp only [encode, assemble, fieldA_fourBytes, fieldB_fourBytes, Instr.opcode]

/-- The fields of a well-formed command's word hold its operands (R102, R103). -/
theorem Instr.withFields_encode {i : Instr} (h : i.wf = true) :
    i.withFields (fieldA (encode i)) (fieldB (encode i)) = i := by
  cases i <;> simp only [encode, assemble, fieldA_fourBytes, fieldB_fourBytes, Instr.withFields]
  case startOutgoing usage => rw [usageOfB_eq_self_iff.2 (of_decide_eq_true h)]
  case queueTx _ flags => rw [flagsOfB_eq_self_iff.2 (of_decide_eq_true h)]
  case setActive bit => rw [bitOfB_eq_self_iff.2 (of_decide_eq_true h)]

theorem decode_encode {i : Instr} (h : i.wf = true) : decode (encode i) = .ok i := by
  rw [encode_eq_cmdWord, decode_cmdWord, Instr.withFields_encode h]

/-! ### The bits a command uses -/

theorem fieldOP_and (w m : Word) : fieldOP (w &&& m) = fieldOP w &&& fieldOP m := BitVec.extractLsb'_and ..

theorem fieldA_and (w m : Word) : fieldA (w &&& m) = fieldA w &&& fieldA m := BitVec.extractLsb'_and ..

theorem fieldB_and (w m : Word) : fieldB (w &&& m) = fieldB w &&& fieldB m := BitVec.extractLsb'_and ..

theorem fieldRSV_and (w m : Word) : fieldRSV (w &&& m) = fieldRSV w &&& fieldRSV m := BitVec.extractLsb'_and ..

/-- Every command uses all of OP. -/
theorem fieldOP_and_usedBits (w : Word) (i : Instr) : fieldOP (w &&& usedBits i) = fieldOP w := by
  have whole : fieldOP (usedBits i) = 0xFF := by cases i <;> simp only [usedBits] <;> rfl
  rw [fieldOP_and, whole, and_fullMask]

/-- Every command uses all of RSV. -/
theorem fieldRSV_and_usedBits (w : Word) (i : Instr) : fieldRSV (w &&& usedBits i) = fieldRSV w := by
  have whole : fieldRSV (usedBits i) = 0xFF := by cases i <;> simp only [usedBits] <;> rfl
  rw [fieldRSV_and, whole, and_fullMask]

/-- A command's operands are among the bits it uses. -/
theorem Instr.withFields_and_usedBits (w : Word) (i : Instr) :
    i.withFields (fieldA (w &&& usedBits i)) (fieldB (w &&& usedBits i)) = i.withFields (fieldA w) (fieldB w) := by
  rw [fieldA_and, fieldB_and]
  cases i with
  | nop | flush | rxCollect | queryActive => rfl
  | startOutgoing _ =>
    simp only [Instr.withFields, usedBits, usageOfB, show fieldB 0xFF0300FF = 0x03 from rfl, and_mask_and_mask]
  | queueTx _ _ =>
    simp only [Instr.withFields, usedBits, flagsOfB, show fieldA 0xFF0FFFFF = 0xFF from rfl,
      show fieldB 0xFF0FFFFF = 0x0F from rfl, and_fullMask, and_mask_and_mask]
  | setActive _ =>
    simp only [Instr.withFields, usedBits, bitOfB, show fieldB 0xFF0100FF = 0x01 from rfl, and_mask_and_mask]
  | appendByte _ | appendInfer _ =>
    simp only [Instr.withFields, usedBits, show fieldB 0xFFFF00FF = 0xFF from rfl, and_fullMask]
  | armRx _ | isTxDone _ | isRxDone _ | release _ | rxReadByte _ | rxFree _ =>
    simp only [Instr.withFields, usedBits, show fieldA 0xFF00FFFF = 0xFF from rfl, and_fullMask]

/-- R106: only the bits a command uses say whether a word is that command. -/
theorem decode_and_usedBits_eq_ok_iff {w : Word} {i : Instr} :
    decode (w &&& usedBits i) = .ok i ↔ decode w = .ok i := by
  rw [decode_eq_ok_iff, decode_eq_ok_iff, fieldOP_and_usedBits, fieldRSV_and_usedBits, Instr.withFields_and_usedBits]

/-- R106: a decoder matches only OP and RSV. -/
theorem exists_decode_and_mask_iff {w : Word} :
    (∃ i, decode (w &&& 0xFF0000FF) = .ok i) ↔ ∃ i, decode w = .ok i := by
  have hop : fieldOP (w &&& 0xFF0000FF) = fieldOP w := fieldOP_and_usedBits w .nop
  have hrsv : fieldRSV (w &&& 0xFF0000FF) = fieldRSV w := fieldRSV_and_usedBits w .nop
  rw [exists_decode_eq_ok_iff, exists_decode_eq_ok_iff, hop, hrsv]

end Sys2Proof
end

section
/-! PROOFS. The statements about command words (30_encoding.md), each from the decoder's equations. -/

namespace Sys2Proof.Machine

/-- Settles O1: the words are fixed, so the decoder is run on them. -/
theorem writtenWordsDecode : Obligations.WrittenWordsDecode := by
  unfold Obligations.WrittenWordsDecode
  decide

/-- Settles O2: a command's word holds its operands, and a word's operands are well-formed. -/
theorem decodeOfEncodeIsIdentity : Obligations.DecodeOfEncodeIsIdentity := by
  refine ⟨fun i h => ⟨decode_encode h, ?_⟩, fun w i => wf_of_decode⟩
  rw [decodeBytes_bytesOfWord, decode_encode h]

/-- Settles O3: both words decode as what the mask leaves of them. -/
theorem unusedBitsAreIgnored : Obligations.UnusedBitsAreIgnored := by
  refine ⟨fun w v i hw hvw => ?_, fun w v hwv => ?_⟩
  · rwa [← decode_and_usedBits_eq_ok_iff, hvw, decode_and_usedBits_eq_ok_iff]
  · rw [← exists_decode_and_mask_iff (w := w), hwv, exists_decode_and_mask_iff]

/-- A word that is no command is answered with ILLEGAL (R303). -/
theorem State.runCommand_of_error {w : Word} {r : Reject} (h : decode w = .error r) (s : State) :
    s.runCommand w = .next s.notACommand := by
  rw [State.runCommand, h]

/-- Settles O4: the answer to a rejected word is a result and nothing more. -/
theorem illegalWordOnlyAnswersIllegal : Obligations.IllegalWordOnlyAnswersIllegal := by
  refine ⟨fun w => exists_decode_eq_error_iff, fun s w hw => ?_⟩
  obtain ⟨r, hr⟩ := exists_decode_eq_error_iff.2 hw
  exact ⟨_, State.runCommand_of_error hr s, onlyResult_putResult s .illegal 0 0 0⟩

end Sys2Proof.Machine
end

section
/-! PROOFS. The packet pool (40_pool_queues.md): where the packets stand, and every move a command or an engine's turn
makes between the places of R145. -/

namespace Sys2Proof.Machine

/-! ### Where the packets stand -/

/-- The number of driver slots, and what stands in each place of R39. -/
structure Pool where
  slots : Nat
  free  : List Nat
  build : Option Nat
  txq   : List PktId
  txing : Option PktId
  rxing : Option PktId
  rxq   : List Nat

/-- The pool of a state. -/
def State.pool (s : State) : Pool :=
  { slots := s.nDrv, free := s.freeq, build := s.bld.pkt, txq := s.txq, txing := s.tx.pkt, rxing := s.rx.pkt,
    rxq := s.rxq }

/-- The head of FREEQ leaves it for the builder (R161, R164). -/
def Pool.openHead (P : Pool) (i : Nat) (rest : List Nat) : Pool := { P with free := rest, build := some i }

/-- The open fragment leaves the builder for TXQ (R162). -/
def Pool.handOver (P : Pool) (i : Nat) : Pool := { P with build := none, txq := P.txq ++ [.drv i] }

/-- What can happen to the pool, with TXE and RXE in these states, but for the two moves of the receive consumer (R290,
R292). -/
inductive Pool.Moves (tx : TxState) (rx : RxState) (P : Pool) : Pool → Prop where
  | stay : P.Moves tx rx P
  | openHead {i rest} (hb : P.build = none) (hq : P.free = i :: rest) : P.Moves tx rx (P.openHead i rest)
  | handOver {i} (hb : P.build = some i) : P.Moves tx rx (P.handOver i)
  /-- START_OUTGOING hands one fragment over and opens another (R161). -/
  | reopen {i j rest} (hb : P.build = some i) (hq : P.free = j :: rest) :
      P.Moves tx rx ((P.handOver i).openHead j rest)
  /-- An APPEND opens a fragment and fills it with its one byte (R164). -/
  | fillHead {i rest} (hb : P.build = none) (hq : P.free = i :: rest) :
      P.Moves tx rx ((P.openHead i rest).handOver i)
  /-- QUEUE_TX (R261). -/
  | queueApp {g} : P.Moves tx rx { P with txq := P.txq ++ [.app g] }
  /-- TXE takes the head of TXQ (R191). -/
  | startTx {p rest} (hst : tx = .idle) (hq : P.txq = p :: rest) :
      P.Moves tx rx { P with txq := rest, txing := some p }
  /-- A driver packet has been sent (R199). -/
  | sentDrv {i} (hp : P.txing = some (.drv i)) : P.Moves tx rx { P with txing := none, free := P.free ++ [i] }
  /-- An application packet has been sent (R199). -/
  | sentApp {g} (hp : P.txing = some (.app g)) : P.Moves tx rx { P with txing := none }
  /-- RXE binds the head of FREEQ (R222). -/
  | bindHead {i rest} (hst : rx = .awaitFlags) (hq : P.free = i :: rest) :
      P.Moves tx rx { P with free := rest, rxing := some (.drv i) }
  /-- RXE binds an application slot (R223). -/
  | bindApp {g} (hst : rx = .awaitIndex) : P.Moves tx rx { P with rxing := some (.app g) }
  /-- The reception of a driver packet is aborted (R232). -/
  | abortDrv {i} (hp : P.rxing = some (.drv i)) : P.Moves tx rx { P with rxing := none, free := P.free ++ [i] }
  /-- A driver packet has been received (R231). -/
  | completeDrv {i} (hp : P.rxing = some (.drv i)) : P.Moves tx rx { P with rxing := none, rxq := P.rxq ++ [i] }
  /-- The reception of an application packet ends, well or not (R231, R232). -/
  | dropApp {g} (hp : P.rxing = some (.app g)) : P.Moves tx rx { P with rxing := none }

/-- The pool of `t` is that of `s` after one of these moves. -/
abbrev State.Moves (s t : State) : Prop := s.pool.Moves s.tx.state s.rx.state t.pool

theorem State.Moves.of_pool {s t : State} {P : Pool} (ht : t.pool = P) (m : s.pool.Moves s.tx.state s.rx.state P) :
    s.Moves t := by
  subst ht; exact m

theorem State.Moves.ite {c : Prop} [Decidable c] {s t u : State} (ht : s.Moves t) (hu : s.Moves u) :
    s.Moves (if c then t else u) := by
  split
  · exact ht
  · exact hu

/-! ### Records are no part of the pool -/

theorem State.pool_setDrv (s : State) (i : Nat) (d : DrvPkt) : (s.setDrv i d).pool = s.pool := by
  simp [State.pool]

theorem State.pool_setFlags (s : State) (p : PktId) (f : Byte) : (s.setFlags p f).pool = s.pool := by
  cases p with
  | drv i => exact s.pool_setDrv i _
  | app g => rfl

theorem State.pool_setFlagsLength (s : State) (p : PktId) (f : Byte) (n : Half) :
    (s.setFlagsLength p f n).pool = s.pool := by
  cases p with
  | drv i => exact s.pool_setDrv i _
  | app g => rfl

theorem State.pool_setLength (s : State) (p : PktId) (n : Half) : (s.setLength p n).pool = s.pool := by
  cases p with
  | drv i => exact s.pool_setDrv i _
  | app g => rfl

/-! ### Commands -/

theorem State.pool_bldFinish (s : State) (last : Bool) (i : Nat) : (s.bldFinish last i).pool = s.pool.handOver i :=
  congrArg (Pool.handOver · i) (s.pool_setFlags (.drv i) _)

theorem State.pool_bldOpen (s : State) (i : Nat) (rest : List Nat) (f : Byte) :
    (State.bldOpen { s with freeq := rest } i f).pool = s.pool.openHead i rest :=
  congrArg (Pool.openHead · i rest) (s.pool_setFlagsLength (.drv i) f 0)

/-- The fragment stays open, or is handed over full (R164). -/
theorem State.pool_bldStore (s : State) (i : Nat) (b : Byte) :
    (s.bldStore i b).pool = s.pool ∨ (s.bldStore i b).pool = s.pool.handOver i := by
  unfold State.bldStore
  extract_lets p n s1 bld s2
  have stored : s1.pool = s.pool := (State.pool_setLength _ _ _).trans (s.pool_setDrv _ _)
  change s2.pool = _ ∨ s2.pool = _
  simp only [s2]
  split
  · exact .inr ((State.pool_bldFinish _ _ _).trans (congrArg (Pool.handOver · i) stored))
  · exact .inl stored

theorem State.moves_append (s : State) (b : Byte) : s.Moves (s.append b) := by
  unfold State.append
  rcases s.bldLazy_cases with ⟨i, hb, eq⟩ | ⟨i, rest, hb, hq, eq⟩ | ⟨-, -, eq⟩ <;> rw [eq]
  · obtain stored | stored := s.pool_bldStore i b
    · exact .of_pool stored .stay
    · exact .of_pool stored (.handOver hb)
  · obtain stored | stored := State.pool_bldStore (State.bldOpen { s with freeq := rest } i _) i b <;>
      rw [State.pool_bldOpen] at stored
    · exact .of_pool stored (.openHead hb hq)
    · exact .of_pool stored (.fillHead hb hq)
  · exact .stay

/-- The inference is no move (R165). -/
theorem State.moves_appendInfer (s : State) (b : Byte) : s.Moves ((s.infer b).append b) := by
  obtain ⟨carry, eq⟩ := s.infer_eq b
  have moved := (s.infer b).moves_append b
  rw [eq] at moved ⊢
  exact moved

theorem State.moves_bldFlush (s : State) : s.Moves s.bldFlush := by
  cases hb : s.bld.pkt with
  | none => rw [State.bldFlush_none hb]; exact .stay
  | some i => rw [State.bldFlush_some hb]; exact .of_pool (s.pool_bldFinish true i) (.handOver hb)

/-- START_OUTGOING hands over the open fragment, if any, and opens the head of FREEQ, if any (R161). -/
theorem execStartOutgoing_moves {s t : State} {usage : Byte} (ht : execStartOutgoing usage s = .next t) :
    s.Moves t := by
  unfold execStartOutgoing at ht
  extract_lets s1 bld s2 flags at ht
  split at ht <;> cases ht
  · exact s.moves_bldFlush
  · next i rest hq =>
    have hq : s1.pool.free = i :: rest := dequeue_eq_some.1 hq
    have opened := s2.pool_bldOpen i rest flags
    change _ = s1.pool.openHead i rest at opened
    cases hb : s.bld.pkt with
    | none =>
      rw [show s1 = s from State.bldFlush_none hb] at hq opened
      exact .of_pool opened (.openHead hb hq)
    | some j =>
      rw [show s1 = s.bldFinish true j from State.bldFlush_some hb, State.pool_bldFinish] at hq opened
      exact .of_pool opened (.reopen hb hq)

/-- RX_COLLECT of the oldest packet received (R290). -/
def State.Collects (s t : State) : Prop := ∃ i rest, s.pool.rxq = i :: rest ∧ t.pool = { s.pool with rxq := rest }

/-- RX_FREE (R292). -/
def State.Frees (s t : State) : Prop := ∃ i, t.pool = { s.pool with free := s.pool.free ++ [i] }

theorem execRxCollect_collects {s t : State} (ht : execRxCollect s = .next t) : s.Moves t ∨ s.Collects t := by
  unfold execRxCollect at ht
  split at ht <;> cases ht
  · exact .inl .stay
  · next i rest hq => exact .inr ⟨i, rest, dequeue_eq_some.1 hq, rfl⟩

theorem State.frees_freeHeld (s : State) (i : Byte) : s.Frees (s.freeHeld i) :=
  ⟨slotOfA i, congrArg (fun P => { P with free := s.freeq ++ [slotOfA i] })
    (s.pool_setFlagsLength (.drv (slotOfA i)) 0x00 0)⟩

theorem execRxFree_frees {s t : State} {i : Byte} (ht : execRxFree i s = .next t) : s.Moves t ∨ s.Frees t := by
  cases ht
  unfold State.checkHeld
  split
  · exact .inr (s.frees_freeHeld i)
  · exact .inl .stay

/-- Every command but the two of the receive consumer makes one of the moves of the pool. -/
theorem exec_moves {c : Instr} {s t : State} (ht : exec c s = .next t) :
    s.Moves t ∨ c = .rxCollect ∧ s.Collects t ∨ (∃ a, c = .rxFree a) ∧ s.Frees t := by
  cases c with
  | rxCollect => exact (execRxCollect_collects ht).imp id fun h => .inl ⟨rfl, h⟩
  | rxFree a => exact (execRxFree_frees ht).imp id fun h => .inr ⟨⟨a, rfl⟩, h⟩
  | startOutgoing usage => exact .inl (execStartOutgoing_moves ht)
  | appendByte b => cases ht; exact .inl (s.moves_append b)
  | appendInfer b => cases ht; exact .inl (s.moves_appendInfer b)
  | flush => cases ht; exact .inl s.moves_bldFlush
  | queueTx a flags => cases ht; exact .inl (.ite .stay (.ite .stay .queueApp))
  | armRx a => cases ht; exact .inl (.ite .stay (.ite .stay .stay))
  | isTxDone a => cases ht; exact .inl (.ite .stay .stay)
  | isRxDone a => cases ht; exact .inl (.ite .stay .stay)
  | release a => cases ht; exact .inl (.ite .stay (.ite .stay .stay))
  | rxReadByte a => cases ht; exact .inl (.ite (.ite .stay .stay) .stay)
  | nop => cases ht; exact .inl .stay
  | setActive bit => cases ht; exact .inl .stay
  | queryActive => cases ht; exact .inl .stay

/-! ### The transmit engine -/

/-- The packet sent leaves TXE, a driver packet for FREEQ (R199). -/
theorem State.moves_txEnd {s : State} {p : PktId} (hp : s.tx.pkt = some p) : s.Moves (s.txEnd p) := by
  cases p with
  | drv i =>
    exact .of_pool (congrArg (fun P : Pool => { P with txing := none, free := s.freeq ++ [i] })
      ((s.emit markEND).pool_setFlags (.drv i) _)) (.sentDrv hp)
  | app g => exact .sentApp hp

theorem State.txStep_moves {s t : State} (ht : s.txStep = some t) : s.Moves t := by
  unfold State.txStep at ht
  cases hst : s.tx.state <;> simp only [hst, Option.some.injEq, Option.map_eq_some_iff, Option.bind_eq_some_iff] at ht
  case idle =>
    subst ht
    unfold State.txIdle
    split
    · exact .stay
    · next hq => exact .startTx hst (dequeue_eq_some.1 hq)
  case sentFlags =>
    obtain ⟨p, -, ht⟩ := ht
    unfold State.txIndexOrSize at ht
    split at ht
    · obtain ⟨x, -, rfl⟩ := Option.map_eq_some_iff.1 ht
      exact .stay
    · cases ht; exact .stay
  case sentSize2 | sentData =>
    obtain ⟨p, -, ht⟩ := ht
    obtain ⟨b, -, ⟨-, rfl⟩ | ⟨-, rfl⟩⟩ := State.txData_eq_some ht <;> exact .stay
  case sentAllData =>
    obtain ⟨p, hp, rfl⟩ := ht
    exact State.moves_txEnd hp
  case sentStart | sentIndex | sentSize1 | sentEsc =>
    obtain ⟨p, -, rfl⟩ := ht
    exact .stay

theorem State.moves_txTurn (s : State) : s.Moves s.txTurn := by
  rcases s.txTurn_cases with eq | ⟨-, -, ht⟩
  · rw [eq]; exact .stay
  · exact State.txStep_moves ht

/-! ### The receive engine -/

theorem State.pool_rxBind (s : State) (p : PktId) : (s.rxBind p).pool = { s.pool with rxing := some p } :=
  congrArg (fun P : Pool => { P with rxing := some p }) (s.pool_setFlagsLength p _ 0)

/-- The packet RXE was filling leaves it, a driver packet for FREEQ (R232). -/
theorem State.moves_rxAbort (s : State) : s.Moves s.rxAbort := by
  unfold State.rxAbort
  cases hp : s.rx.pkt with
  | none => exact .of_pool (congrArg (fun x => { s.pool with rxing := x }) hp.symm) .stay
  | some p =>
    cases p with
    | drv i =>
      exact .of_pool (congrArg (fun P : Pool => { P with rxing := none, free := s.freeq ++ [i] })
        (s.pool_setFlagsLength (.drv i) 0x00 0)) (.abortDrv hp)
    | app g => exact .dropApp hp

/-- The packet received leaves RXE, a driver packet for RXQ (R231). -/
theorem State.moves_rxComplete {s : State} {p : PktId} (hp : s.rx.pkt = some p) : s.Moves (s.rxComplete p) := by
  cases p with
  | drv i =>
    exact .of_pool (congrArg (fun P : Pool => { P with rxing := none, rxq := s.rxq ++ [i] })
      (s.pool_setFlags (.drv i) _)) (.completeDrv hp)
  | app g => exact .dropApp hp

/-- A driver frame is bound to the head of FREEQ (R222). -/
theorem State.moves_rxTakeFlags {s : State} (hst : s.rx.state = .awaitFlags) (b : Byte) :
    s.Moves (s.rxTakeFlags b) := by
  unfold State.rxTakeFlags
  extract_lets x s1
  refine .ite .stay ?_
  split
  · exact s1.moves_rxAbort
  · next i rest hq =>
    exact .of_pool (State.pool_rxBind { s1 with freeq := rest } (.drv i)) (.bindHead hst (dequeue_eq_some.1 hq))

theorem State.moves_rxTakeIndex {s : State} (hst : s.rx.state = .awaitIndex) (b : Byte) : s.Moves (s.rxTakeIndex b) :=
  .ite s.moves_rxAbort (.of_pool (s.pool_rxBind _) (.bindApp hst))

theorem State.moves_rxSizeHigh (s : State) (p : PktId) (b : Byte) : s.Moves (s.rxSizeHigh p b) :=
  .ite (State.moves_rxAbort { s with rx := { s.rx with size := b ++ lowByte s.rx.size } }) .stay

theorem State.moves_rxEnd {s : State} {p : PktId} (hp : s.rx.pkt = some p) (b : Byte) : s.Moves (s.rxEnd p b) :=
  State.Moves.ite (c := b = markEND) (State.moves_rxComplete hp) s.moves_rxAbort

/-- A payload byte is no move (R229). -/
theorem State.rxStore_moves {s t : State} {p : PktId} {b : Byte} (ht : s.rxStore p b = some t) : s.Moves t := by
  obtain ⟨s1, hw, rfl⟩ := State.rxStore_eq_some ht
  have written : s1.pool = s.pool := by
    cases p with
    | drv i => cases hw; exact s.pool_setDrv i _
    | app g =>
      obtain ⟨-, rfl⟩ := State.memWrite_eq_some.1 hw
      rfl
  have counted := congrArg (fun P => { P with rxing := s1.rx.pkt }) (s1.pool_setLength p (s.lengthOf p + 1))
  exact .of_pool (counted.trans written) .stay

theorem State.rxStep_moves {s t : State} {b : Byte} (ht : s.rxStep b = some t) : s.Moves t := by
  unfold State.rxStep at ht
  cases hst : s.rx.state <;> simp only [hst, Option.some.injEq, Option.map_eq_some_iff, Option.bind_eq_some_iff] at ht
  case awaitStart => exact ht ▸ .ite .stay .stay
  case awaitFlags => exact ht ▸ State.moves_rxTakeFlags hst b
  case awaitIndex => exact ht ▸ State.moves_rxTakeIndex hst b
  case awaitSize1 => exact ht ▸ .stay
  case awaitSize2 =>
    obtain ⟨p, -, rfl⟩ := ht
    exact s.moves_rxSizeHigh p b
  case awaitDataEsc =>
    obtain ⟨p, -, ht⟩ := ht
    unfold State.rxDataEsc at ht
    split at ht
    · cases ht; exact .stay
    · exact State.rxStore_moves ht
  case awaitData =>
    obtain ⟨p, -, ht⟩ := ht
    exact State.rxStore_moves ht
  case awaitEnd =>
    obtain ⟨p, hp, rfl⟩ := ht
    exact State.moves_rxEnd hp b

theorem State.moves_rxTurn (s : State) : s.Moves s.rxTurn := by
  rcases s.rxTurn_cases with eq | ⟨b, -, ht⟩
  · rw [eq]; exact .stay
  · exact State.rxStep_moves (s := s.takeByte) ht

end Sys2Proof.Machine
end

section
/-! PROOFS. Who holds packets (40_pool_queues.md R146), and that the queues are first in, first out (R140 to R143): both
from the moves of the pool. -/

namespace Sys2Proof.Machine

/-! ### Consumer-held packets -/

/-- Driver packet `i` stands in one of the places (R145). -/
def Pool.Has (P : Pool) (i : Nat) : Prop :=
  i ∈ P.free ∨ P.build = some i ∨ .drv i ∈ P.txq ∨ P.txing = some (.drv i) ∨ P.rxing = some (.drv i) ∨ i ∈ P.rxq

/-- Consumer-held: a slot that stands in none of the places (R146). -/
theorem State.held_iff_pool {s : State} {i : Nat} : s.held i = true ↔ i < s.pool.slots ∧ ¬s.pool.Has i :=
  State.held_iff_not_mem_drvPlaces.trans (and_congr_right' (not_congr State.mem_drvPlaces))

/-- The moves take driver packets from place to place: where an engine takes one, it had none. -/
theorem Pool.Moves.has_iff {tx : TxState} {rx : RxState} {P Q : Pool} (m : P.Moves tx rx Q)
    (htx : tx = .idle → P.txing = none) (hrx : rx = .awaitFlags ∨ rx = .awaitIndex → P.rxing = none) (i : Nat) :
    Q.Has i ↔ P.Has i := by
  cases m with
  | stay => rfl
  | openHead | handOver | reopen | fillHead => grind [Pool.Has, Pool.openHead, Pool.handOver]
  | startTx hst => have := htx hst; grind [Pool.Has]
  | bindHead hst => have := hrx (.inl hst); grind [Pool.Has]
  | bindApp hst => have := hrx (.inr hst); grind [Pool.Has]
  | queueApp | sentDrv | sentApp | abortDrv | completeDrv | dropApp => grind [Pool.Has]

theorem Pool.Moves.slots_eq {tx : TxState} {rx : RxState} {P Q : Pool} (m : P.Moves tx rx Q) : Q.slots = P.slots := by
  cases m <;> rfl

theorem State.Ok.held_of_moves {s t : State} (h : s.Ok) (m : s.Moves t) (i : Nat) : t.held i = s.held i := by
  have has := m.has_iff h.txUnbound.1 (fun hst => h.rxUnbound.1 (.inr hst)) i
  rw [Bool.eq_iff_iff, State.held_iff_pool, State.held_iff_pool, m.slots_eq, has]

/-- RX_COLLECT takes a packet from its place, so no held one is lost. -/
theorem State.Collects.held {s t : State} {i : Nat} (c : s.Collects t) (h : s.held i = true) : t.held i = true := by
  obtain ⟨j, rest, hq, eq⟩ := c
  rw [State.held_iff_pool] at h ⊢
  obtain ⟨hslot, hout⟩ := h
  rw [eq]
  refine ⟨hslot, fun has => hout ?_⟩
  simp only [Pool.Has, hq, List.mem_cons] at has ⊢
  tauto

/-- RX_FREE puts a packet into a place, so none becomes held. -/
theorem State.Frees.held {s t : State} {i : Nat} (f : s.Frees t) (h : t.held i = true) : s.held i = true := by
  obtain ⟨j, eq⟩ := f
  rw [State.held_iff_pool] at h ⊢
  obtain ⟨hslot, hout⟩ := h
  rw [eq] at hslot hout
  exact ⟨hslot, fun has => hout (has.imp_left (List.mem_append_left _))⟩

/-- Settles O20: every move but the consumer's two keeps the set of packets that stand in a place. -/
theorem onlyTheConsumerHolds : Obligations.OnlyTheConsumerHolds := by
  intro s t i hinv
  have h := State.inv_iff.1 hinv
  refine ⟨fun c ht hc hheld => ?_, fun c ht hc hheld => ?_, h.held_of_moves s.moves_rxTurn i,
    h.held_of_moves s.moves_txTurn i⟩
  · obtain m | ⟨rfl, -⟩ | ⟨-, f⟩ := exec_moves ht
    · rwa [← h.held_of_moves m]
    · exact absurd rfl hc
    · exact f.held hheld
  · obtain m | ⟨-, collects⟩ | ⟨⟨a, rfl⟩, -⟩ := exec_moves ht
    · rwa [h.held_of_moves m]
    · exact collects.held hheld
    · exact absurd rfl (hc a)

/-! ### The queues -/

/-- `q` becomes `r` by the loss of at most its head and the gain of at most one entry at its tail (R143). -/
def Fifo {α : Type} (q r : List α) : Prop := ∃ n l, n ≤ 1 ∧ l.length ≤ 1 ∧ r = q.drop n ++ l

theorem Fifo.refl {α : Type} (q : List α) : Fifo q q := ⟨0, [], by simp⟩

theorem Fifo.put {α : Type} (q : List α) (a : α) : Fifo q (q ++ [a]) := ⟨0, [a], by simp⟩

theorem Fifo.take {α : Type} {q rest : List α} {a : α} (h : q = a :: rest) : Fifo q rest := ⟨1, [], by simp [h]⟩

/-- Each of the three queues does (R140, R141). -/
def Pool.Fifos (P Q : Pool) : Prop := Fifo P.free Q.free ∧ Fifo P.txq Q.txq ∧ Fifo P.rxq Q.rxq

theorem Pool.Fifos.refl (P : Pool) : P.Fifos P := ⟨.refl _, .refl _, .refl _⟩

/-- No move uses a queue twice. -/
theorem Pool.Moves.fifos {tx : TxState} {rx : RxState} {P Q : Pool} (m : P.Moves tx rx Q) : P.Fifos Q := by
  cases m with
  | stay | sentApp | bindApp | dropApp => exact Pool.Fifos.refl P
  | openHead _ hq => exact ⟨.take hq, .refl _, .refl _⟩
  | handOver | queueApp => exact ⟨.refl _, .put _ _, .refl _⟩
  | reopen _ hq | fillHead _ hq => exact ⟨.take hq, .put _ _, .refl _⟩
  | startTx _ hq => exact ⟨.refl _, .take hq, .refl _⟩
  | bindHead _ hq => exact ⟨.take hq, .refl _, .refl _⟩
  | sentDrv | abortDrv => exact ⟨.put _ _, .refl _, .refl _⟩
  | completeDrv => exact ⟨.refl _, .refl _, .put _ _⟩

theorem State.Collects.fifos {s t : State} (c : s.Collects t) : s.pool.Fifos t.pool := by
  obtain ⟨i, rest, hq, eq⟩ := c
  exact eq ▸ ⟨.refl _, .refl _, .take hq⟩

theorem State.Frees.fifos {s t : State} (f : s.Frees t) : s.pool.Fifos t.pool := by
  obtain ⟨i, eq⟩ := f
  exact eq ▸ ⟨.put _ _, .refl _, .refl _⟩

theorem exec_fifos {c : Instr} {s t : State} (ht : exec c s = .next t) : s.pool.Fifos t.pool := by
  obtain m | ⟨-, collects⟩ | ⟨-, frees⟩ := exec_moves ht
  · exact m.fifos
  · exact collects.fifos
  · exact frees.fifos

theorem State.runCommand_fifos {w : Word} {s t : State} (ht : s.runCommand w = .next t) : s.pool.Fifos t.pool := by
  unfold State.runCommand at ht
  split at ht
  · exact exec_fifos ht
  · cases ht; exact .refl _

theorem State.pool_hostWrite (s : State) (a : Nat) (b : Byte) : (s.hostWrite a b).pool = s.pool := by
  rcases s.hostWrite_cases a b with eq | ⟨-, ⟨-, eq⟩ | ⟨-, eq⟩⟩ <;> rw [eq] <;> rfl

theorem State.fgTurn_fifos {s t : State} (ht : s.fgTurn = .next t) : s.pool.Fifos t.pool := by
  obtain ⟨w, f, -, hrun⟩ | ⟨a, b, rest, -, -, rfl⟩ | ⟨f, r, o, rfl⟩ := State.fgTurn_cases ht
  · exact State.runCommand_fifos (s := { s with fg := f }) hrun
  · exact (State.pool_hostWrite _ a b).symm ▸ .refl s.pool
  · exact .refl s.pool

theorem State.pool_linkPresent (s : State) : s.linkPresent.pool = s.pool := by
  unfold State.linkPresent
  split <;> rfl

theorem State.turn_fifos {s t : State} {d : Draw} (ht : s.turn d = .next t) (hd : d ≠ .reset) :
    s.pool.Fifos t.pool := by
  cases d with
  | fg => exact State.fgTurn_fifos ht
  | rxe => cases ht; exact s.moves_rxTurn.fifos
  | txe => cases ht; exact s.moves_txTurn.fifos
  | linkByte => cases ht; exact s.pool_linkPresent.symm ▸ .refl s.pool
  | linkReady r => cases ht; exact .refl s.pool
  | reset => exact absurd rfl hd

/-- Settles O45: every turn but a reset makes one move of the pool, or none. -/
theorem queuesAreFifos : Obligations.QueuesAreFifos := by
  intro s t ht hd
  obtain ⟨o, ho⟩ := s.afterDraw_eq
  rw [step, ho] at ht
  exact State.turn_fifos (s := { s with oracle := o }) ht hd

end Sys2Proof.Machine
end

section
/-! PROOFS. What each operation of the builder does to the records, and what it leaves alone (41_builder.md R161 to R167);
the statements about the five builder commands are put together from these. -/

namespace Sys2Proof.Machine

/-! ### Frames -/

theorem OtherDrivers.refl (s : State) (l : List Nat) : OtherDrivers s s l := ⟨rfl, fun _ _ => ⟨rfl, fun _ => rfl⟩⟩

theorem OtherDrivers.mono {s t : State} {l m : List Nat} (h : OtherDrivers s t l) (hlm : l ⊆ m) : OtherDrivers s t m :=
  ⟨h.1, fun j hj => h.2 j fun hl => hj (hlm hl)⟩

theorem OtherDrivers.drvPkt_eq {s t : State} {l : List Nat} {j : Nat} (h : OtherDrivers s t l) (hj : j ∉ l) :
    t.drvPkt j = s.drvPkt j := (h.2 j hj).1

theorem OtherDrivers.dbuf_eq {s t : State} {l : List Nat} {j : Nat} (h : OtherDrivers s t l) (hj : j ∉ l) (k : Nat) :
    t.dbuf j k = s.dbuf j k := (h.2 j hj).2 k

theorem OtherDrivers.trans {s t u : State} {l : List Nat} (h : OtherDrivers s t l) (h' : OtherDrivers t u l) :
    OtherDrivers s u l :=
  ⟨h'.1.trans h.1, fun _ hj => ⟨(h'.drvPkt_eq hj).trans (h.drvPkt_eq hj),
    fun k => (h'.dbuf_eq hj k).trans (h.dbuf_eq hj k)⟩⟩

/-- Writing one record leaves the others alone. -/
theorem otherDrivers_setDrv (s : State) (i : Nat) (d : DrvPkt) : OtherDrivers s (s.setDrv i d) [i] := by
  refine ⟨s.nDrv_setDrv i d, fun j hj => ?_⟩
  have same := s.drvPkt_setDrv_other (List.ne_of_not_mem_cons hj) d
  exact ⟨same, fun k => by rw [State.dbuf, State.dbuf, same, State.setDrv_epoch]⟩

/-- A command that completes leaves everything around it alone (R72, R304). -/
theorem sameAround_of_exec {c : Instr} {s t : State} (ht : exec c s = .next t) (hdone : t.fg.cmdPort = none) :
    SameAround s t := by
  have outside := exec_outside ht
  simp only [State.outside, Prod.mk.injEq] at outside
  obtain ⟨tx, rx, link, mem, oracle, cfg, epoch, -, -, ops, seen, -, -⟩ := outside
  refine ⟨tx, rx, link, mem, oracle, epoch, cfg, ?_⟩
  change t.fg = ⟨none, s.fg.ops, s.fg.seen⟩
  rw [← ops, ← seen, ← hdone]

theorem hasResult_putResult {s t : State} (h : t.regs = s.regs) (st : Status) (val fl : Byte) (len : Half) :
    HasResult s (t.putResult st val fl len) (statusCode st) val fl len := by
  rw [HasResult, State.putResult_regs, h]
  rfl

/-! ### The slots the builder uses -/

theorem State.Located.lt_of_open {s : State} {i : Nat} (h : s.Located) (hb : s.bld.pkt = some i) : i < s.nDrv :=
  h.2.1 i (State.mem_drvPlaces.2 (.inr (.inl hb)))

theorem State.Located.lt_of_free {s : State} {i : Nat} (h : s.Located) (hq : i ∈ s.freeq) : i < s.nDrv :=
  h.2.1 i (State.mem_drvPlaces.2 (.inl hq))

theorem State.Located.freeq_nodup {s : State} (h : s.Located) : s.freeq.Nodup := by
  have hn := h.1
  simp only [State.drvPlaces, List.append_assoc] at hn
  exact (List.nodup_append.1 hn).1

/-- A free slot is not the open fragment's (R39). -/
theorem State.Located.not_open_of_free {s : State} {i : Nat} (h : s.Located) (hq : i ∈ s.freeq) :
    i ∉ s.bld.pkt.toList := fun hb => by
  have hn := h.1
  simp only [State.drvPlaces, List.append_assoc] at hn
  exact (List.nodup_append.1 hn).2.2 i hq i (List.mem_append_left _ hb) rfl

/-! ### Handing over (R162) -/

theorem State.drvPkt_bldFinish {s : State} {i : Nat} (h : i < s.nDrv) (last : Bool) :
    (s.bldFinish last i).drvPkt i = { s.drvPkt i with flags := finishFlags last (s.drvPkt i).flags } :=
  State.drvPkt_setDrv_same h _

theorem State.otherDrivers_bldFinish (s : State) (last : Bool) (i : Nat) : OtherDrivers s (s.bldFinish last i) [i] :=
  otherDrivers_setDrv s i _

/-- A hand-over writes the driver table, TXQ and TXIE, and closes the fragment. -/
theorem State.bldFlush_eq (s : State) :
    s.bldFlush = { s with
      drv := s.bldFlush.drv, txq := s.bldFlush.txq, txie := s.bldFlush.txie, bld := { s.bld with pkt := none } } := by
  cases hb : s.bld.pkt with
  | none =>
    have : { s.bld with pkt := none } = s.bld := by rw [← hb]
    rw [State.bldFlush_none hb, this]
  | some i => rw [State.bldFlush_some hb]; rfl

theorem State.bldFlush_app (s : State) : s.bldFlush.app = s.app := by rw [State.bldFlush_eq]

theorem State.bldFlush_freeq (s : State) : s.bldFlush.freeq = s.freeq := by rw [State.bldFlush_eq]

theorem State.bldFlush_rxq (s : State) : s.bldFlush.rxq = s.rxq := by rw [State.bldFlush_eq]

theorem State.bldFlush_active (s : State) : s.bldFlush.active = s.active := by rw [State.bldFlush_eq]

theorem State.bldFlush_regs (s : State) : s.bldFlush.regs = s.regs := by rw [State.bldFlush_eq]

theorem State.otherDrivers_bldFlush (s : State) : OtherDrivers s s.bldFlush s.bld.pkt.toList := by
  cases hb : s.bld.pkt with
  | none => rw [State.bldFlush_none hb]; exact .refl s _
  | some i => rw [State.bldFlush_some hb]; exact s.otherDrivers_bldFinish true i

theorem State.Located.handedOver_bldFlush {s : State} (h : s.Located) : HandedOver s s.bldFlush := by
  refine ⟨fun hb => by rw [State.bldFlush_none hb]; exact ⟨rfl, rfl⟩, fun b hb => ?_⟩
  rw [State.bldFlush_some hb]
  exact ⟨rfl, rfl, State.drvPkt_bldFinish (h.lt_of_open hb) true⟩

/-- A hand-over is not undone by changes to other records. -/
theorem HandedOver.of_others {s t u : State} {l : List Nat} (h : HandedOver s t) (htxq : u.txq = t.txq)
    (htxie : u.txie = t.txie) (others : OtherDrivers t u l) (hl : ∀ b ∈ s.bld.pkt, b ∉ l) : HandedOver s u := by
  obtain ⟨hnone, hsome⟩ := h
  rw [HandedOver, htxq, htxie]
  refine ⟨hnone, fun b hb => ?_⟩
  rw [others.drvPkt_eq (hl b hb)]
  exact hsome b hb

/-- Settles O10: the open fragment is handed over, and the builder's three registers are cleared. -/
theorem flushHandsOverAndClearsCarry : Obligations.FlushHandsOverAndClearsCarry := by
  intro s a b h
  exact ⟨decode_cmdWord .flush a b, _, rfl, h.handedOver_bldFlush,
    congrArg (Builder.mk · 0 false) s.bldFlush_pkt, hasResult_putResult s.bldFlush_regs .ok 0 0 0,
    s.otherDrivers_bldFlush, sameAround_of_exec (c := .flush) rfl rfl, s.bldFlush_freeq, s.bldFlush_app,
    s.bldFlush_rxq, s.bldFlush_active⟩

/-! ### Opening a fragment (R161) -/

theorem State.otherDrivers_bldOpen (s : State) (i : Nat) (f : Byte) : OtherDrivers s (s.bldOpen i f) [i] :=
  otherDrivers_setDrv s i _

theorem State.drvPkt_bldOpen {s : State} {i : Nat} (h : i < s.nDrv) (f : Byte) :
    (s.bldOpen i f).drvPkt i = { s.drvPkt i with flags := f, length := 0 } :=
  State.drvPkt_setDrv_same h _

/-- Only the usage bits of the operand count (R106). -/
theorem usageOperand_mask (b : Byte) : usageOperand (b &&& 0x03) = b.extractLsb' 0 2 := by
  revert b
  decide

theorem openFlags_first (b : Byte) : openFlags (b.extractLsb' 0 2) true = b &&& 0x03 ||| 0x04 := by
  revert b
  decide

/-- The state in which START_OUTGOING asks FREEQ for a packet: the open fragment handed over, the usage recorded
(R161). -/
def State.restarted (s : State) (usage : BitVec 2) : State :=
  { s.bldFlush with bld := { s.bldFlush.bld with carry := usage, cont := false } }

theorem exec_startOutgoing_empty {s : State} (hq : s.freeq = []) (usage : Byte) :
    exec (.startOutgoing usage) s = .next ((s.restarted (usageOperand usage)).putResult .unavailable 0 0 0) := by
  have hd : dequeue (s.restarted (usageOperand usage)).freeq = none :=
    dequeue_eq_none.2 (s.bldFlush_freeq.trans hq)
  simp only [State.restarted] at hd
  simp only [exec, execStartOutgoing, hd, State.restarted]

theorem exec_startOutgoing_head {s : State} {i : Nat} {rest : List Nat} (hq : s.freeq = i :: rest) (usage : Byte) :
    exec (.startOutgoing usage) s = .next
      ((State.bldOpen { s.restarted (usageOperand usage) with freeq := rest } i
        (openFlags (usageOperand usage) true)).putResult .ok (slotByte i) (openFlags (usageOperand usage) true) 0) := by
  have hd : dequeue (s.restarted (usageOperand usage)).freeq = some (i, rest) :=
    dequeue_eq_some.2 (s.bldFlush_freeq.trans hq)
  simp only [State.restarted] at hd
  simp only [exec, execStartOutgoing, hd, State.restarted]

/-- Settles O6: the open fragment is handed over, then the head of FREEQ, another slot, is opened. -/
theorem startOutgoingOpensOrFails : Obligations.StartOutgoingOpensOrFails := by
  intro s a b h
  refine ⟨decode_cmdWord (.startOutgoing 0) a b, ?_⟩
  have handed := h.handedOver_bldFlush
  have others := s.otherDrivers_bldFlush
  cases hq : s.freeq with
  | nil =>
    have ht := exec_startOutgoing_empty hq (b &&& 0x03)
    rw [usageOperand_mask] at ht
    exact ⟨_, ht, handed, sameAround_of_exec ht rfl, s.bldFlush_app, s.bldFlush_rxq, s.bldFlush_active,
      s.bldFlush_freeq.trans hq, congrArg (Builder.mk · (b.extractLsb' 0 2) false) s.bldFlush_pkt,
      hasResult_putResult s.bldFlush_regs .unavailable 0 0 0, others⟩
  | cons i rest =>
    have ht := exec_startOutgoing_head hq (b &&& 0x03)
    rw [usageOperand_mask, openFlags_first] at ht
    have hfree : i ∈ s.freeq := by simp [hq]
    have hopen := h.not_open_of_free hfree
    have opened := s.bldFlush.otherDrivers_bldOpen i (b &&& 0x03 ||| 0x04)
    have record := State.drvPkt_bldOpen (s := s.bldFlush) (others.1.symm ▸ h.lt_of_free hfree) (b &&& 0x03 ||| 0x04)
    refine ⟨_, ht, handed.of_others rfl rfl opened fun j hj hji => ?_, sameAround_of_exec ht rfl, s.bldFlush_app,
      s.bldFlush_rxq, s.bldFlush_active, rfl, rfl, ?_, hasResult_putResult s.bldFlush_regs .ok _ _ 0,
      (others.mono (List.subset_cons_self _ _)).trans (opened.mono (by simp))⟩
    · rw [List.mem_singleton.1 hji] at hj
      exact hopen (Option.mem_toList.2 hj)
    · rw [← others.drvPkt_eq hopen]
      exact record

/-! ### Storing a byte (R164) -/

theorem State.drvPkt_storeDrv {s : State} {i : Nat} (h : i < s.nDrv) (b : Byte) :
    (s.storeDrv i b).drvPkt i =
      { s.drvPkt i with
        length := (s.drvPkt i).length + 1, buf := (s.drvPkt i).buf.put (s.drvPkt i).length.toNat b } :=
  State.drvPkt_setDrv_same h _

/-- The fragment with the byte stored, closed without LAST; its usage is carried over. -/
def State.storeClose (s : State) (i : Nat) (b : Byte) : State :=
  State.bldFinish
    { s.storeDrv i b with bld := { (s.storeDrv i b).bld with carry := usageBits (s.drvPkt i).flags, cont := true } }
    false i

theorem State.drvPkt_storeClose {s : State} {i : Nat} (h : i < s.nDrv) (b : Byte) :
    (s.storeClose i b).drvPkt i = { (s.storeDrv i b).drvPkt i with flags := (s.drvPkt i).flags ||| 0x10 } := by
  have hi : i < (s.storeDrv i b).nDrv := (s.nDrv_setDrv i _).symm ▸ h
  have record := State.drvPkt_bldFinish (s := s.storeDrv i b) hi false
  rw [show ((s.storeDrv i b).drvPkt i).flags = _ from congrArg DrvPkt.flags (State.drvPkt_storeDrv h b)] at record
  exact record

theorem State.bldStore_full {s : State} {i : Nat} (h : i < s.nDrv) (b : Byte)
    (hn : ((s.drvPkt i).length + 1).toNat = s.cfg.drvCap) :
    s.bldStore i b = (s.storeClose i b).putResult
      .ok (slotByte i) ((s.drvPkt i).flags ||| 0x10) ((s.drvPkt i).length + 1) := by
  have flags := congrArg DrvPkt.flags (State.drvPkt_storeClose h b)
  simp only [State.bldStore, State.setLength_setDbuf h, if_pos hn]
  exact congrArg ((s.storeClose i b).putResult .ok (slotByte i) · _) flags

theorem State.bldStore_room {s : State} {i : Nat} (h : i < s.nDrv) (b : Byte)
    (hn : ((s.drvPkt i).length + 1).toNat ≠ s.cfg.drvCap) :
    s.bldStore i b =
      (s.storeDrv i b).putResult .ok (slotByte i) (s.drvPkt i).flags ((s.drvPkt i).length + 1) := by
  have flags := congrArg DrvPkt.flags (State.drvPkt_storeDrv h b)
  simp only [State.bldStore, State.setLength_setDbuf h, if_neg hn]
  exact congrArg ((s.storeDrv i b).putResult .ok (slotByte i) · _) flags

/-- The state `t` is `s` with `b` stored at the end of fragment `i`, whose flags and length were `f` and `n`: the fragment
is closed when that fills it, else open. -/
structure State.Stores (s t : State) (i : Nat) (b f : Byte) (n : Half) : Prop where
  length : (t.drvPkt i).length = n + 1
  byte   : ∀ k, t.dbuf i k = if k = n.toNat then b else s.dbuf i k
  full   : (n + 1).toNat = s.cfg.drvCap →
    (t.drvPkt i).flags = f ||| 0x10 ∧ t.txq = s.txq ++ [.drv i] ∧ t.txie = true ∧
      t.bld = { pkt := none, carry := f.extractLsb' 0 2, cont := true } ∧
      HasResult s t 0 (BitVec.ofNat 8 i) (f ||| 0x10) (n + 1)
  room   : (n + 1).toNat ≠ s.cfg.drvCap →
    (t.drvPkt i).flags = f ∧ t.txq = s.txq ∧ t.txie = s.txie ∧ t.bld = { s.bld with pkt := some i } ∧
      HasResult s t 0 (BitVec.ofNat 8 i) f (n + 1)
  others : OtherDrivers s t [i]
  app    : t.app = s.app
  rxq    : t.rxq = s.rxq
  active : t.active = s.active
  done   : t.fg.cmdPort = none

theorem State.otherDrivers_storeDrv (s : State) (i : Nat) (b : Byte) : OtherDrivers s (s.storeDrv i b) [i] :=
  otherDrivers_setDrv s i _

theorem State.otherDrivers_storeClose (s : State) (i : Nat) (b : Byte) : OtherDrivers s (s.storeClose i b) [i] :=
  (s.otherDrivers_storeDrv i b).trans ((s.storeDrv i b).otherDrivers_bldFinish false i)

theorem State.stores_bldStore {s : State} {i : Nat} (h : i < s.nDrv) (hb : s.bld.pkt = some i) (b : Byte) :
    s.Stores (s.bldStore i b) i b (s.drvPkt i).flags (s.drvPkt i).length := by
  have byte := State.dbuf_bldStore h b i
  simp only [true_and] at byte
  by_cases hn : ((s.drvPkt i).length + 1).toNat = s.cfg.drvCap
  · have record := State.drvPkt_storeClose h b
    rw [State.drvPkt_storeDrv h] at record
    rw [State.bldStore_full h b hn] at byte ⊢
    exact { byte
            length := congrArg DrvPkt.length record
            full := fun _ => ⟨congrArg DrvPkt.flags record, rfl, rfl, rfl, rfl⟩
            room := fun hne => absurd hn hne
            others := s.otherDrivers_storeClose i b
            app := rfl, rxq := rfl, active := rfl, done := rfl }
  · have record := State.drvPkt_storeDrv h b
    have flags := congrArg DrvPkt.flags record
    rw [State.bldStore_room h b hn] at byte ⊢
    have still : s.bld = { s.bld with pkt := some i } := by rw [← hb]
    exact { byte
            length := congrArg DrvPkt.length record
            full := fun hfull => absurd hfull hn
            room := fun _ => ⟨flags, rfl, rfl, still, rfl⟩
            others := s.otherDrivers_storeDrv i b
            app := rfl, rxq := rfl, active := rfl, done := rfl }

theorem State.bldStore_freeq (s : State) (i : Nat) (b : Byte) : (s.bldStore i b).freeq = s.freeq := by
  unfold State.bldStore
  extract_lets p n s1 bld s2
  change s2.freeq = _
  simp only [s2]
  split <;> rfl

/-! ### APPEND_BYTE and APPEND_INFER -/

/-- The fragment an APPEND fills is slot `i` with flags `f` and length `n`, and leaves `q` of FREEQ: the open fragment, or
the head of FREEQ, started with the carried usage (R164). -/
def State.Fills (s : State) (i : Nat) (f : Byte) (n : Half) (q : List Nat) : Prop :=
  s.bld.pkt = some i ∧ f = (s.drvPkt i).flags ∧ n = (s.drvPkt i).length ∧ q = s.freeq ∨
    s.bld.pkt = none ∧ s.freeq = i :: q ∧ f = s.bld.carry.setWidth 8 ||| (if s.bld.cont then 0x00 else 0x04) ∧ n = 0

theorem openFlags_carry (carry : BitVec 2) (cont : Bool) :
    openFlags carry (!cont) = carry.setWidth 8 ||| (if cont then 0x00 else 0x04) := by
  cases cont <;> rfl

theorem State.append_open {s : State} {i : Nat} (hb : s.bld.pkt = some i) (b : Byte) :
    s.append b = s.bldStore i b := by
  simp only [State.append, State.bldLazy, hb]

theorem State.append_head {s : State} {i : Nat} {q : List Nat} (hb : s.bld.pkt = none) (hq : s.freeq = i :: q)
    (b : Byte) :
    s.append b = (State.bldOpen { s with freeq := q } i (openFlags s.bld.carry (!s.bld.cont))).bldStore i b := by
  simp only [State.append, State.bldLazy, hb, hq, dequeue_cons]

theorem State.append_held {s : State} (hb : s.bld.pkt = none) (hq : s.freeq = []) (b : Byte) : s.append b = s := by
  simp only [State.append, State.bldLazy, hb, hq, dequeue_nil]

/-- What is stored in a fragment just opened is stored from where FREEQ still held it. -/
theorem State.Stores.of_opened {s t : State} {i : Nat} {q : List Nat} {b f : Byte} {n : Half}
    (h : State.Stores (State.bldOpen { s with freeq := q } i f) t i b f n) : s.Stores t i b f n :=
  { h with
    byte := fun k => by rw [h.byte, State.dbuf_eq (State.memories_bldOpen _ _ _)]; rfl
    others := (State.otherDrivers_bldOpen { s with freeq := q } i f).trans h.others }

theorem State.Located.stores_append {s : State} {i : Nat} {f : Byte} {n : Half} {q : List Nat} (h : s.Located)
    (hfill : s.Fills i f n q) (b : Byte) : s.Stores (s.append b) i b f n ∧ (s.append b).freeq = q := by
  obtain ⟨hb, rfl, rfl, rfl⟩ | ⟨hb, hq, rfl, rfl⟩ := hfill
  · rw [State.append_open hb]
    exact ⟨State.stores_bldStore (h.lt_of_open hb) hb b, s.bldStore_freeq i b⟩
  · have hi : i < State.nDrv { s with freeq := q } := h.lt_of_free (by simp [hq])
    rw [State.append_head hb hq, openFlags_carry]
    have record := State.drvPkt_bldOpen hi (s.bld.carry.setWidth 8 ||| (if s.bld.cont then 0x00 else 0x04))
    rw [← State.nDrv_bldOpen _ i (s.bld.carry.setWidth 8 ||| (if s.bld.cont then 0x00 else 0x04))] at hi
    have stores := State.stores_bldStore hi (State.bldOpen_pkt _ i _) b
    rw [record] at stores
    exact ⟨stores.of_opened, State.bldStore_freeq _ i b⟩

/-- Settles O7: the fragment APPEND_BYTE fills is the open one, or the head of FREEQ opened first. -/
theorem appendByteStoresAndCloses : Obligations.AppendByteStoresAndCloses := by
  intro s a b i f n q h hfill
  obtain ⟨stores, hq⟩ := h.stores_append hfill b
  refine ⟨decode_cmdWord (.appendByte 0) a b, _, rfl, hq, stores.length, stores.byte, ?_, stores.others,
    sameAround_of_exec (c := .appendByte b) rfl stores.done, stores.app, stores.rxq, stores.active⟩
  split
  · next hn => exact stores.full hn
  · next hn => exact stores.room hn

/-- An APPEND that is not held completes (R163, R43). -/
theorem State.cmdPort_append {s : State} (h : s.bld.pkt ≠ none ∨ s.freeq ≠ []) (b : Byte) :
    (s.append b).fg.cmdPort = none := by
  cases hb : s.bld.pkt with
  | some i => rw [State.append_open hb]; rfl
  | none =>
    cases hq : s.freeq with
    | nil => exact absurd h (by simp [hb, hq])
    | cons i q => rw [State.append_head hb hq]; rfl

theorem printable_iff {b : Byte} : printable b = true ↔ 0x20 ≤ b.toNat ∧ b.toNat ≤ 0x7E := by
  simp [printable]

/-- The inference where the command has a step (R165). -/
theorem State.infer_of_step {s : State} (h : s.bld.pkt ≠ none ∨ s.freeq ≠ []) (b : Byte) :
    s.infer b = if s.bld.pkt = none ∧ s.bld.cont = false then
      { s with bld := { s.bld with carry := if 0x20 ≤ b.toNat ∧ b.toNat ≤ 0x7E then 0 else 1 } } else s := by
  have hstep : (s.bld.pkt = none ∧ s.bld.cont = false ∧ s.freeq ≠ []) ↔ s.bld.pkt = none ∧ s.bld.cont = false := by
    tauto
  simp only [State.infer, hstep, printable_iff]

/-- The inference changes nothing where the command is held (R163). -/
theorem State.infer_held {s : State} (hq : s.freeq = []) (b : Byte) : s.infer b = s :=
  if_neg fun h => h.2.2 hq

theorem State.cmdPort_appendInfer {s : State} (h : s.bld.pkt ≠ none ∨ s.freeq ≠ []) (b : Byte) :
    ((s.infer b).append b).fg.cmdPort = none := by
  obtain ⟨carry, eq⟩ := s.infer_eq b
  rw [eq]
  exact State.cmdPort_append (s := { s with bld := { s.bld with carry := carry } }) h b

/-- Settles O8: where the command has a step, the inference depends on the builder and the byte alone. -/
theorem appendInferChoosesUsage : Obligations.AppendInferChoosesUsage := by
  intro s a b h
  refine ⟨decode_cmdWord (.appendInfer 0) a b, _, rfl, State.cmdPort_appendInfer h b, ?_⟩
  rw [← State.infer_of_step h]
  rfl

/-- Settles O9: a held APPEND, with or without the inference, leaves the state the draw has left. -/
theorem appendHoldsExactlyWhenExhausted : Obligations.AppendHoldsExactlyWhenExhausted := by
  intro s w b hd hcmd hw
  obtain ⟨o, ho⟩ := s.afterDraw_eq
  obtain ⟨c, hc, happend⟩ : ∃ c, decode w = .ok c ∧ (c = .appendByte b ∨ c = .appendInfer b) := by
    rcases hw with hw | hw
    · exact ⟨_, hw, .inl rfl⟩
    · exact ⟨_, hw, .inr rfl⟩
  rw [(stepRunsTheDecodedCommand s w c hd hc).1 hcmd, ho]
  refine ⟨fun ⟨hb, hq⟩ => ?_, fun h => ?_⟩
  · obtain rfl | rfl := happend
    · exact congrArg _ (State.append_held (s := { s with oracle := o }) hb hq b)
    · refine congrArg Host.Outcome.next ?_
      rw [State.infer_held (s := { s with oracle := o }) hq]
      exact State.append_held (s := { s with oracle := o }) hb hq b
  · obtain rfl | rfl := happend
    · exact ⟨_, rfl, State.cmdPort_append (s := { s with oracle := o }) h b⟩
    · exact ⟨_, rfl, State.cmdPort_appendInfer (s := { s with oracle := o }) h b⟩

end Sys2Proof.Machine
end

section
/-! PROOFS. The fragmentation law (41_builder.md R168): START_OUTGOING opens the first fragment, each APPEND_BYTE keeps an
account of the full fragments handed over and the bytes of the one being filled, and FLUSH hands over that one. -/

namespace Sys2Proof.Machine

/-! ### Counting in fragments -/

/-- Fragment and offset of a byte are determined by its place in the message. -/
theorem fragment_offset_unique {c j q x r : Nat} (hx : x < c) (hr : r < c) (h : j * c + x = q * c + r) :
    j = q ∧ x = r := by
  have hdiv : ∀ {j x : Nat}, x < c → (j * c + x) / c = j := fun {j x} hx => by
    rw [Nat.mul_comm, Nat.mul_add_div (Nat.zero_lt_of_lt hx), Nat.div_eq_of_lt hx, Nat.add_zero]
  obtain rfl : j = q := (hdiv hx).symm.trans ((congrArg (· / c) h).trans (hdiv hr))
  exact ⟨rfl, Nat.add_left_cancel h⟩

/-- Full fragments only. -/
theorem fragment_count_full {c : Nat} (hc : 0 < c) (q : Nat) : (q * c + c - 1) / c = q := by
  rw [Nat.add_sub_assoc hc, Nat.mul_comm, Nat.mul_add_div hc, Nat.div_eq_of_lt (by omega), Nat.add_zero]

/-- A last fragment that is not full. -/
theorem fragment_count_short {c r : Nat} (q : Nat) (hr : r < c) (h0 : 0 < r) : (q * c + r + c - 1) / c = q + 1 := by
  rw [show q * c + r + c - 1 = c * (q + 1) + (r - 1) by rw [Nat.mul_add, Nat.mul_comm c q]; omega,
    Nat.mul_add_div (by omega), Nat.div_eq_of_lt (by omega), Nat.add_zero]

/-- Enough packets for the fragments are room enough for the bytes. -/
theorem length_le_of_fragments {n c k m : Nat} (hc : 0 < c) (hk : k = (n + c - 1) / c) (hm : k ≤ m) : n ≤ m * c := by
  have hdiv := Nat.div_add_mod (n + c - 1) c
  have hmod := Nat.mod_lt (n + c - 1) hc
  rw [← hk] at hdiv
  have hle : c * k ≤ m * c := Nat.mul_comm m c ▸ Nat.mul_le_mul_left c hm
  omega

/-- Packets of FREEQ at different places are different (R39). -/
theorem ne_of_earlier {l : List Nat} {j q i i' : Nat} (hn : l.Nodup) (hi' : l[j]? = some i') (hi : l[q]? = some i)
    (hj : j < q) : i' ≠ i := by
  rintro rfl
  obtain ⟨hlt, -⟩ := List.getElem?_eq_some_iff.1 hi'
  exact hj.ne ((List.getElem?_inj hlt hn).1 (hi'.trans hi.symm))

/-! ### Flags of fragments -/

/-- The flags of the open fragment number `j` of a message: its usage, and FIRST on the first (R161, R164). -/
def fragmentFlags (u : Byte) (j : Nat) : Byte := (u &&& 0x03) ||| (if j = 0 then 0x04 else 0)

theorem usage_of_fragmentFlags (u : Byte) (j : Nat) : (fragmentFlags u j).extractLsb' 0 2 = u.extractLsb' 0 2 := by
  have hfirst : ∀ u : Byte, ((u &&& 0x03) ||| 0x04).extractLsb' 0 2 = u.extractLsb' 0 2 := by decide
  have hnext : ∀ u : Byte, ((u &&& 0x03) ||| 0).extractLsb' 0 2 = u.extractLsb' 0 2 := by decide
  unfold fragmentFlags
  split
  · exact hfirst u
  · exact hnext u

/-- A fragment started with the carried usage does not have FIRST (R164). -/
theorem fragmentFlags_of_carry (u : Byte) {j : Nat} (hj : 0 < j) :
    fragmentFlags u j = (u.extractLsb' 0 2).setWidth 8 ||| 0x00 := by
  have hnext : ∀ u : Byte, (u &&& 0x03) ||| 0 = (u.extractLsb' 0 2).setWidth 8 ||| 0x00 := by decide
  rw [fragmentFlags, if_neg hj.ne']
  exact hnext u

/-! ### The account of a message being built -/

/-- In `t`, `q` fragments of the message begun in `s` have been handed over and none is open. -/
structure State.Between (s : State) (u : Byte) (q r : Nat) (t : State) : Prop where
  after : 0 < q
  empty : r = 0
  freeq : t.freeq = s.freeq.drop q
  bld   : t.bld = { pkt := none, carry := u.extractLsb' 0 2, cont := true }

/-- In `t`, fragment number `q` of the message begun in `s` is open and holds `r` bytes. -/
structure State.Within (s : State) (u : Byte) (q r i : Nat) (t : State) : Prop where
  first  : r = 0 → q = 0
  slot   : s.freeq[q]? = some i
  freeq  : t.freeq = s.freeq.drop (q + 1)
  opened : t.bld.pkt = some i
  flags  : (t.drvPkt i).flags = fragmentFlags u q
  length : (t.drvPkt i).length.toNat = r

/-- The state `t` is as START_OUTGOING with usage `u` in `s` and an APPEND_BYTE for each byte of `d` leave it: `q` full
fragments have been handed over, and `r` bytes come after those. -/
structure State.Fragments (s : State) (u : Byte) (d : List Byte) (q r : Nat) (t : State) : Prop where
  ok    : t.Ok
  cfg   : t.cfg = s.cfg
  count : d.length = q * s.cfg.drvCap + r
  room  : r < s.cfg.drvCap
  txq   : t.txq = s.txq ++ (s.freeq.take q).map .drv
  next  : s.Between u q r t ∨ ∃ i, s.Within u q r i t
  full  : ∀ j i, j < q → s.freeq[j]? = some i →
    (t.drvPkt i).flags = fragmentFlags u j ||| 0x10 ∧ (t.drvPkt i).length.toNat = s.cfg.drvCap
  bytes : ∀ j i x b, s.freeq[j]? = some i → x < s.cfg.drvCap → d[j * s.cfg.drvCap + x]? = some b → t.dbuf i x = b

theorem State.Ok.located {s : State} (h : s.Ok) : s.Located := State.located_iff.2 h.placed

/-! ### START_OUTGOING -/

theorem exec_startOutgoing_mask (u : Byte) (s : State) :
    exec (.startOutgoing (u &&& 0x03)) s = exec (.startOutgoing u) s := by
  simp only [exec, execStartOutgoing, usageOperand_mask]
  rfl

theorem State.fragments_startOutgoing {s : State} (h : s.Ok) (hb : s.bld.pkt = none) (hq : s.freeq ≠ []) (u : Byte) :
    ∃ t, exec (.startOutgoing u) s = .next t ∧ s.Fragments u [] 0 0 t := by
  obtain ⟨i, rest, hfree⟩ := List.exists_cons_of_ne_nil hq
  obtain ⟨-, t, ht, ⟨hkeep, -⟩, around, -, -, -, hopen⟩ := startOutgoingOpensOrFails s 0 u h.located
  rw [hfree] at hopen
  obtain ⟨freeq, bld, record, -, -⟩ := hopen
  rw [exec_startOutgoing_mask] at ht
  obtain ⟨-, -, -, -, -, -, cfg, -⟩ := around
  refine ⟨t, ht, {
    ok := h.exec ht
    cfg := cfg
    count := by simp
    room := h.legal.2.1.1
    txq := by simp [(hkeep hb).1]
    next := .inr ⟨i, {
      first := fun _ => rfl
      slot := by simp [hfree]
      freeq := by simp [hfree, freeq]
      opened := congrArg Builder.pkt bld
      flags := congrArg DrvPkt.flags record
      length := congrArg (fun p => p.length.toNat) record }⟩
    full := fun j i hj => absurd hj (Nat.not_lt_zero j)
    bytes := fun j i x b _ _ hx => by simp at hx }⟩

/-! ### APPEND_BYTE -/

/-- The next APPEND_BYTE fills fragment number `q` at offset `r`. -/
theorem State.Fragments.fills {s t : State} {u : Byte} {d : List Byte} {q r : Nat} (h : s.Fragments u d q r t)
    (hq : q < s.freeq.length) : ∃ i n, s.freeq[q]? = some i ∧ n.toNat = r ∧
      t.Fills i (fragmentFlags u q) n (s.freeq.drop (q + 1)) := by
  obtain between | ⟨i, within⟩ := h.next
  · refine ⟨s.freeq[q], 0, List.getElem?_eq_getElem hq, between.empty.symm, .inr ⟨?_, ?_, ?_, rfl⟩⟩
    · rw [between.bld]
    · rw [between.freeq, List.drop_eq_getElem_cons hq]
    · rw [between.bld, fragmentFlags_of_carry u between.after]
      rfl
  · exact ⟨i, _, within.slot, within.length, .inl ⟨within.opened, within.flags.symm, rfl, within.freeq.symm⟩⟩

/-- The bytes of the message after one more has been stored. -/
theorem State.Fragments.bytes_stores {s t t' : State} {u b f : Byte} {d : List Byte} {q r i : Nat} {n : Half}
    (h : s.Fragments u d q r t) (hn : s.freeq.Nodup) (hq : q < s.freeq.length) (hi : s.freeq[q]? = some i)
    (hr : n.toNat = r) (stores : t.Stores t' i b f n) (j i' x : Nat) (b' : Byte) (hi' : s.freeq[j]? = some i')
    (hx : x < s.cfg.drvCap) (hb : (d ++ [b])[j * s.cfg.drvCap + x]? = some b') : t'.dbuf i' x = b' := by
  by_cases hlast : j * s.cfg.drvCap + x = d.length
  · obtain ⟨rfl, rfl⟩ := fragment_offset_unique hx h.room (hlast.trans h.count)
    rw [hi, Option.some.injEq] at hi'
    rw [hlast, List.getElem?_concat_length, Option.some.injEq] at hb
    rw [← hi', stores.byte, if_pos hr.symm, hb]
  · have hold : d[j * s.cfg.drvCap + x]? = some b' := by
      rw [List.getElem?_append] at hb
      split at hb
      · exact hb
      · rw [List.getElem?_singleton, if_neg (by omega)] at hb
        cases hb
    rw [← h.bytes j i' x b' hi' hx hold]
    by_cases hij : i' = i
    · have hjq : j = q := ((List.getElem?_inj hq hn).1 (hi.trans (hij ▸ hi'.symm))).symm
      rw [hij, stores.byte, if_neg]
      rintro rfl
      exact hlast (by rw [hjq, h.count, hr])
    · exact stores.others.dbuf_eq (by simpa using hij) x

/-- The full fragments handed over stay as they are while another is filled. -/
theorem State.Fragments.full_stores {s t t' : State} {u : Byte} {d : List Byte} {q r i : Nat}
    (h : s.Fragments u d q r t) (hn : s.freeq.Nodup) (hi : s.freeq[q]? = some i) (others : OtherDrivers t t' [i])
    (j i' : Nat) (hj : j < q) (hi' : s.freeq[j]? = some i') :
    (t'.drvPkt i').flags = fragmentFlags u j ||| 0x10 ∧ (t'.drvPkt i').length.toNat = s.cfg.drvCap := by
  rw [others.drvPkt_eq (by simpa using ne_of_earlier hn hi' hi hj)]
  exact h.full j i' hj hi'

/-- One more byte: it fills its fragment, which is handed over, or leaves room in it (R164). -/
theorem State.Fragments.append {s t : State} {u : Byte} {d : List Byte} {q r : Nat} (h : s.Fragments u d q r t)
    (hn : s.freeq.Nodup) (hq : q < s.freeq.length) (b : Byte) :
    ∃ q' r', s.Fragments u (d ++ [b]) q' r' (t.append b) := by
  obtain ⟨i, n, hi, hr, hfill⟩ := h.fills hq
  obtain ⟨stores, freeq⟩ := h.ok.located.stores_append hfill b
  have ok := h.ok.append b
  have cfg : (t.append b).cfg = s.cfg := by
    obtain ⟨-, -, -, -, -, -, hcfg, -⟩ := sameAround_of_exec (c := .appendByte b) rfl stores.done
    exact hcfg.trans h.cfg
  have grown : (n + 1).toNat = r + 1 := by
    rw [toNat_add_one_of_lt (hr ▸ h.room) (h.cfg ▸ h.ok.drvCap_le), hr]
  have length := stores.length
  have bytes := h.bytes_stores hn hq hi hr stores
  have old := h.full_stores hn hi stores.others
  by_cases hfull : r + 1 = s.cfg.drvCap
  · obtain ⟨flags, txq, -, bld, -⟩ := stores.full (by rw [grown, hfull, h.cfg])
    exact ⟨q + 1, 0, {
      ok, cfg, bytes
      count := by rw [List.length_append, h.count, Nat.add_mul, ← hfull]; simp; omega
      room := Nat.zero_lt_of_lt h.room
      txq := by rw [txq, h.txq, List.take_add_one, hi]; simp
      next := .inl { after := q.succ_pos, empty := rfl, freeq, bld := by rw [bld, usage_of_fragmentFlags] }
      full := fun j i' hj hi' => by
        obtain hj | rfl := Nat.lt_succ_iff_lt_or_eq.1 hj
        · exact old j i' hj hi'
        · obtain rfl : i = i' := by simpa [hi] using hi'
          exact ⟨flags, by rw [length, grown, hfull]⟩ }⟩
  · obtain ⟨flags, txq, -, bld, -⟩ := stores.room (by rwa [grown, h.cfg])
    exact ⟨q, r + 1, {
      ok, cfg, bytes
      count := by rw [List.length_append, h.count]; rfl
      room := by have := h.room; omega
      txq := txq.trans h.txq
      next := .inr ⟨i, {
        first := fun hz => absurd hz r.succ_ne_zero
        slot := hi
        freeq, flags
        opened := congrArg Builder.pkt bld
        length := by rw [length, grown] }⟩
      full := old }⟩

/-- An APPEND_BYTE for each byte of `e`, with packets enough for all of them. -/
theorem State.Fragments.appends {s : State} {u : Byte} (hn : s.freeq.Nodup) (e : List Byte) (rest : List Instr)
    {t : State} {d : List Byte} {q r : Nat} (h : s.Fragments u d q r t)
    (hfit : d.length + e.length ≤ s.freeq.length * s.cfg.drvCap) :
    ∃ q' r' t', s.Fragments u (d ++ e) q' r' t' ∧
      runCommands (e.map .appendByte ++ rest) t = runCommands rest t' := by
  induction e generalizing t d q r with
  | nil => exact ⟨q, r, t, by rwa [List.append_nil], rfl⟩
  | cons b e ih =>
    have hq : q < s.freeq.length := by
      have hcount := h.count
      rw [List.length_cons] at hfit
      exact Nat.lt_of_mul_lt_mul_right (a := s.cfg.drvCap) (by omega)
    obtain ⟨q1, r1, h1⟩ := h.append hn hq b
    obtain ⟨q', r', t', h', hrun⟩ := ih h1 (by simpa [Nat.add_assoc, Nat.add_comm 1] using hfit)
    exact ⟨q', r', t', by simpa using h', hrun⟩

/-! ### FLUSH -/

/-- The message `d` with usage `u` begun in `s` stands in TXQ of `t` as `k` fragments (R168). -/
structure State.Queued (s : State) (u : Byte) (d : List Byte) (k : Nat) (t : State) : Prop where
  txq    : t.txq = s.txq ++ (s.freeq.take k).map .drv
  freeq  : t.freeq = s.freeq.drop k
  bld    : t.bld = { pkt := none, carry := 0, cont := false }
  flags  : ∀ j i, j < k → s.freeq[j]? = some i → (t.drvPkt i).flags =
    fragmentFlags u j ||| (if j + 1 = k ∧ d.length % s.cfg.drvCap ≠ 0 then 0x08 else 0) ||| 0x10
  length : ∀ j i, j < k → s.freeq[j]? = some i → (t.drvPkt i).length.toNat =
    (if j + 1 < k then s.cfg.drvCap else d.length - (k - 1) * s.cfg.drvCap)
  bytes  : ∀ j i x b, s.freeq[j]? = some i → x < s.cfg.drvCap → d[j * s.cfg.drvCap + x]? = some b → t.dbuf i x = b

theorem State.Located.flush {t t' : State} (h : t.Located) (ht : exec .flush t = .next t') :
    HandedOver t t' ∧ t'.bld = { pkt := none, carry := 0, cont := false } ∧ OtherDrivers t t' t.bld.pkt.toList ∧
      t'.freeq = t.freeq := by
  obtain ⟨-, t'', ht'', handed, bld, -, others, -, freeq, -⟩ := flushHandsOverAndClearsCarry t 0 0 h
  rw [ht, Host.Outcome.next.injEq] at ht''
  exact ht'' ▸ ⟨handed, bld, others, freeq⟩

/-- FLUSH stores no byte. -/
theorem State.Fragments.bytes_flush {s t t' : State} {u : Byte} {d : List Byte} {q r : Nat}
    (h : s.Fragments u d q r t) (ht : exec .flush t = .next t') (j i x : Nat) (b : Byte) (hi : s.freeq[j]? = some i)
    (hx : x < s.cfg.drvCap) (hb : d[j * s.cfg.drvCap + x]? = some b) : t'.dbuf i x = b :=
  (State.dbuf_eq (exec_memories (by simp) ht) i x).trans (h.bytes j i x b hi hx hb)

/-- No fragment is open: FLUSH clears the carry, and the message is the full fragments. -/
theorem State.Fragments.flush_between {s t t' : State} {u : Byte} {d : List Byte} {q r : Nat}
    (h : s.Fragments u d q r t) (hb : s.Between u q r t) (ht : exec .flush t = .next t') : s.Queued u d q t' := by
  obtain ⟨handed, bld, others, freeq⟩ := h.ok.located.flush ht
  have hnone : t.bld.pkt = none := congrArg Builder.pkt hb.bld
  have hcount : d.length = q * s.cfg.drvCap := by rw [h.count, hb.empty, Nat.add_zero]
  rw [hnone] at others
  exact {
    bld
    txq := (handed.1 hnone).1.trans h.txq
    freeq := freeq.trans hb.freeq
    flags := fun j i hj hi => by
      rw [others.drvPkt_eq List.not_mem_nil, (h.full j i hj hi).1, hcount, Nat.mul_mod_left]
      simp
    length := fun j i hj hi => by
      rw [others.drvPkt_eq List.not_mem_nil, (h.full j i hj hi).2, hcount, ← Nat.sub_mul]
      split
      · rfl
      · rw [show q - (q - 1) = 1 by omega, Nat.one_mul]
    bytes := h.bytes_flush ht }

/-- A fragment is open: FLUSH hands it over with LAST, as the last of the message. -/
theorem State.Fragments.flush_within {s t t' : State} {u : Byte} {d : List Byte} {q r i : Nat}
    (h : s.Fragments u d q r t) (hw : s.Within u q r i t) (hr : 0 < r) (hn : s.freeq.Nodup)
    (ht : exec .flush t = .next t') : s.Queued u d (q + 1) t' := by
  obtain ⟨handed, bld, others, freeq⟩ := h.ok.located.flush ht
  obtain ⟨txq, -, record⟩ := handed.2 i hw.opened
  rw [hw.opened] at others
  have hmod : d.length % s.cfg.drvCap = r := by
    rw [h.count, Nat.mul_add_mod_self_right, Nat.mod_eq_of_lt h.room]
  have old : ∀ j i', j < q → s.freeq[j]? = some i' → t'.drvPkt i' = t.drvPkt i' := fun j i' hj hi' =>
    others.drvPkt_eq (by simpa [eq_comm] using ne_of_earlier hn hi' hw.slot hj)
  exact {
    bld
    txq := by rw [txq, h.txq, List.take_add_one, hw.slot]; simp
    freeq := freeq.trans hw.freeq
    flags := fun j i' hj hi' => by
      obtain hj | rfl := Nat.lt_succ_iff_lt_or_eq.1 hj
      · rw [old j i' hj hi', (h.full j i' hj hi').1, if_neg (by omega)]
        simp
      · obtain rfl : i = i' := by simpa [hw.slot] using hi'
        rw [if_pos ⟨rfl, hmod ▸ hr.ne'⟩, record, hw.flags]
    length := fun j i' hj hi' => by
      obtain hj | rfl := Nat.lt_succ_iff_lt_or_eq.1 hj
      · rw [old j i' hj hi', (h.full j i' hj hi').2, if_pos (by omega)]
      · obtain rfl : i = i' := by simpa [hw.slot] using hi'
        rw [if_neg (Nat.lt_irrefl _), record, hw.length, h.count]
        simp
    bytes := h.bytes_flush ht }

/-! ### The law -/

/-- The whole sequence of commands queues the message. -/
theorem State.queues_message {s : State} (h : s.Ok) (hb : s.bld.pkt = none) (u : Byte) {d : List Byte} (hd : d ≠ [])
    {k : Nat} (hk : k = (d.length + s.cfg.drvCap - 1) / s.cfg.drvCap) (hfree : k ≤ s.freeq.length) :
    ∃ t, runCommands (.startOutgoing u :: (d.map .appendByte ++ [.flush])) s = some t ∧ s.Queued u d k t := by
  have hn := h.located.freeq_nodup
  have hcap : 0 < s.cfg.drvCap := h.legal.2.1.1
  have hfit := length_le_of_fragments hcap hk hfree
  have hpos : 0 < d.length := List.length_pos_iff.2 hd
  have hq : s.freeq ≠ [] := by
    intro hnil
    rw [hnil, List.length_nil, Nat.zero_mul] at hfit
    omega
  obtain ⟨t0, ht0, h0⟩ := State.fragments_startOutgoing h hb hq u
  obtain ⟨q, r, t, ht, hrun⟩ := h0.appends hn d [.flush] (by simpa using hfit)
  rw [List.nil_append] at ht
  have hstart : runCommands (.startOutgoing u :: (d.map .appendByte ++ [.flush])) s =
      runCommands (d.map .appendByte ++ [.flush]) t0 := by
    rw [runCommands, ht0]
  obtain ⟨t', hflush⟩ : ∃ t', exec .flush t = .next t' := ⟨_, rfl⟩
  refine ⟨t', by rw [hstart, hrun, runCommands, hflush]; rfl, ?_⟩
  obtain between | ⟨i, within⟩ := ht.next
  · rw [hk, ht.count, between.empty, Nat.add_zero, fragment_count_full (Nat.zero_lt_of_lt ht.room)]
    exact ht.flush_between between hflush
  · have hr : 0 < r := by
      refine Nat.pos_of_ne_zero fun hz => ?_
      have hcount := ht.count
      rw [hz, within.first hz, Nat.zero_mul] at hcount
      omega
    rw [hk, ht.count, fragment_count_short q ht.room hr]
    exact ht.flush_within within hr hn hflush

/-- No fragment of the message is longer than `DRV_CAP`. -/
theorem State.Queued.length_le {s t : State} {u : Byte} {d : List Byte} {k j i : Nat} (h : s.Queued u d k t)
    (hd : d.length ≤ k * s.cfg.drvCap) (hj : j < k) (hi : s.freeq[j]? = some i) :
    (t.drvPkt i).length.toNat ≤ s.cfg.drvCap := by
  rw [h.length j i hj hi]
  split
  · exact Nat.le_refl _
  · rwa [Nat.sub_le_iff_le_add', ← Nat.succ_mul, Nat.succ_eq_add_one, Nat.sub_add_cancel (Nat.one_le_of_lt hj)]

/-- Settles O43: the account of the fragments, read off after FLUSH. -/
theorem builderFragmentsMessages : Obligations.BuilderFragmentsMessages := by
  intro s u d k hinv hb hd hk hfree
  have h := State.inv_iff.1 hinv
  have hfit := length_le_of_fragments h.legal.2.1.1 hk (Nat.le_refl k)
  obtain ⟨t, hrun, queued⟩ := State.queues_message h hb u hd hk hfree
  refine ⟨t, hrun, queued.txq, queued.freeq, queued.bld, fun j hj hq => ?_⟩
  have hi := List.getElem?_eq_getElem hq
  exact ⟨queued.flags j _ hj hi, queued.length j _ hj hi, fun x hx hjx =>
    queued.bytes j _ x _ hi (Nat.lt_of_lt_of_le hx (queued.length_le hfit hj hi)) (List.getElem?_eq_getElem hjx)⟩

end Sys2Proof.Machine
end

section
/-! PROOFS. The transmit engine (42_tx_fsm.md R190 to R202): an equation for its step in each state, from which the
statements about single steps are read off. -/

namespace Sys2Proof.Machine

/-! ### Bytes on the line -/

/-- The bytes `w` have gone out, LINK's level `tx_ready` is `r`, and TXE's registers are `x` (R324, R328). -/
def State.sent (s : State) (w : List Byte) (r : Bool) (x : TxEngine) : State :=
  { s with link := { s.link with wire := s.link.wire ++ w, txReady := r }, tx := x }

theorem State.sent_sent (s : State) (v w : List Byte) (q r : Bool) (x y : TxEngine) :
    (s.sent v q x).sent w r y = s.sent (v ++ w) r y := by
  simp [State.sent]

theorem State.sent_nil (s : State) : s.sent [] s.link.txReady s.tx = s := by
  simp [State.sent]

theorem State.sends_sent (s : State) (b : Byte) (r : Bool) (x : TxEngine) : Sends s (s.sent [b] r x) b x := rfl

@[simp] theorem State.tx_sent (s : State) (w : List Byte) (r : Bool) (x : TxEngine) : (s.sent w r x).tx = x := rfl

@[simp] theorem State.flagsOf_sent (s : State) (w : List Byte) (r : Bool) (x : TxEngine) (p : PktId) :
    (s.sent w r x).flagsOf p = s.flagsOf p := by cases p <;> rfl

@[simp] theorem State.lengthOf_sent (s : State) (w : List Byte) (r : Bool) (x : TxEngine) (p : PktId) :
    (s.sent w r x).lengthOf p = s.lengthOf p := by cases p <;> rfl

@[simp] theorem State.txByte_sent (s : State) (w : List Byte) (r : Bool) (x : TxEngine) (p : PktId) (k : Nat) :
    (s.sent w r x).txByte p k = s.txByte p k := by cases p <;> rfl

theorem isReserved_iff {b : Byte} : isReserved b = true ↔ b = 0x8C ∨ b = 0x9D ∨ b = 0xAE := by
  simp only [isReserved, Bool.or_eq_true, decide_eq_true_eq, or_assoc]
  rfl

/-! ### A step in each state -/

/-- R191. -/
theorem State.txStep_idle_empty {s : State} (hst : s.tx.state = .idle) (hq : s.txq = []) :
    s.txStep = some { s with txie := false } := by
  simp only [State.txStep, hst, State.txIdle, hq, dequeue_nil]

/-- The head `p` of TXQ is in flight, with START sent and `rest` still queued (R191). -/
def State.started (s : State) (p : PktId) (rest : List PktId) : State :=
  State.sent { s with txq := rest } [markSTART] false { s.tx with state := .sentStart, pkt := some p, pos := 0 }

/-- R191. -/
theorem State.txStep_idle_head {s : State} {p : PktId} {rest : List PktId} (hst : s.tx.state = .idle)
    (hq : s.txq = p :: rest) : s.txStep = some (s.started p rest) := by
  simp only [State.txStep, hst, State.txIdle, hq, dequeue_cons]
  rfl

/-- R192. -/
theorem State.txStep_sentStart {s : State} {p : PktId} (hp : s.tx.pkt = some p) (hst : s.tx.state = .sentStart) :
    s.txStep = some (s.sent [wireFlags (s.flagsOf p)] false { s.tx with state := .sentFlags }) := by
  rw [State.txStep, hst]
  exact congrArg (Option.map s.txFlags) hp

/-- R193, an application-owned packet. -/
theorem State.txStep_sentFlags_index {s : State} {g : Nat} (hp : s.tx.pkt = some (.app g))
    (hst : s.tx.state = .sentFlags) (howned : isAppOwned (s.flagsOf (.app g)) = true) :
    s.txStep = some (s.sent [(s.appPkt g).index] false { s.tx with state := .sentIndex }) := by
  rw [State.txStep, hst]
  refine (congrArg (Option.bind · s.txIndexOrSize) hp).trans ?_
  exact if_pos howned

/-- R193, a driver packet. -/
theorem State.txStep_sentFlags_size {s : State} {p : PktId} (hp : s.tx.pkt = some p)
    (hst : s.tx.state = .sentFlags) (howned : isAppOwned (s.flagsOf p) = false) :
    s.txStep = some (s.sent [lowByte (s.lengthOf p)] false { s.tx with state := .sentSize1 }) := by
  rw [State.txStep, hst]
  refine (congrArg (Option.bind · s.txIndexOrSize) hp).trans ?_
  exact if_neg (ne_true_of_eq_false howned)

/-- R194. -/
theorem State.txStep_sentIndex {s : State} {p : PktId} (hp : s.tx.pkt = some p) (hst : s.tx.state = .sentIndex) :
    s.txStep = some (s.sent [lowByte (s.lengthOf p)] false { s.tx with state := .sentSize1 }) := by
  rw [State.txStep, hst]
  exact congrArg (Option.map s.txSizeLow) hp

/-- R195. -/
theorem State.txStep_sentSize1 {s : State} {p : PktId} (hp : s.tx.pkt = some p) (hst : s.tx.state = .sentSize1) :
    s.txStep = some (s.sent [highByte (s.lengthOf p)] false
      { s.tx with state := if s.lengthOf p = 0 then .sentAllData else .sentSize2 }) := by
  rw [State.txStep, hst]
  exact congrArg (Option.map s.txSizeHigh) hp

/-- The states whose step reads the payload byte at TX_POS (R196, R197). -/
theorem State.txStep_data {s : State} {p : PktId} (hp : s.tx.pkt = some p)
    (hst : s.tx.state = .sentSize2 ∨ s.tx.state = .sentData) : s.txStep = s.txData p := by
  rcases hst with hst | hst <;> simp only [State.txStep, hst, hp, Option.bind_some]

/-- A read the launch memory refuses (20_memory.md R73). -/
theorem State.txData_refused {s : State} {p : PktId} (hb : s.txByte p s.tx.pos.toNat = none) : s.txData p = none := by
  simp only [State.txData, hb]

/-- A marker byte is latched, and ESCAPE goes out (R196). -/
theorem State.txData_marker {s : State} {p : PktId} {b : Byte} (hb : s.txByte p s.tx.pos.toNat = some b)
    (hr : isReserved b = true) :
    s.txData p = some (s.sent [markESCAPE] false { s.tx with lit := b, state := .sentEsc }) := by
  simp only [State.txData, hb, if_pos hr]
  rfl

/-- TXE's registers when a payload byte of a packet of `n` bytes has gone out (R196, R198, R201). -/
def TxEngine.advanced (x : TxEngine) (n : Half) : TxEngine :=
  { x with pos := x.pos + 1, state := if x.pos + 1 = n then .sentAllData else .sentData }

theorem State.txAdvance_emit (s : State) (p : PktId) (b : Byte) :
    (s.emit b).txAdvance p = s.sent [b] false (s.tx.advanced (s.lengthOf p)) := by
  cases p <;> rfl

/-- Any other byte goes out as it is (R196). -/
theorem State.txData_plain {s : State} {p : PktId} {b : Byte} (hb : s.txByte p s.tx.pos.toNat = some b)
    (hr : isReserved b = false) : s.txData p = some (s.sent [b] false (s.tx.advanced (s.lengthOf p))) := by
  simp only [State.txData, hb, hr, Bool.false_eq_true, if_false, State.txAdvance_emit]

/-- R198. -/
theorem State.txStep_sentEsc {s : State} {p : PktId} (hp : s.tx.pkt = some p) (hst : s.tx.state = .sentEsc) :
    s.txStep = some (s.sent [s.tx.lit] false (s.tx.advanced (s.lengthOf p))) := by
  simp only [State.txStep, hst, hp, Option.map_some, State.txLiteral, State.txAdvance_emit]

/-- R199. -/
theorem State.txStep_sentAllData {s : State} {p : PktId} (hp : s.tx.pkt = some p) (hst : s.tx.state = .sentAllData) :
    s.txStep = some (s.txEnd p) := by
  simp only [State.txStep, hst, hp, Option.map_some]

/-! ### The END step (R199) -/

theorem completed_txEnd {s : State} {p : PktId} (h : s.HasSlot p) : Completed s (s.txEnd p) p := by
  cases p with
  | drv i => exact ⟨State.drvPkt_setDrv_same h _, otherDrivers_setDrv s i _, rfl⟩
  | app g => exact ⟨State.appPkt_setApp_same h _, ⟨s.nApp_setApp g _, fun k hk => s.appPkt_setApp_other hk _⟩, rfl⟩

theorem State.Located.hasSlot_of_tx {s : State} {p : PktId} (h : s.Located) (hp : s.tx.pkt = some p) : s.HasSlot p :=
  (State.located_iff.1 h).slots p (by simp [State.places, hp])

/-! ### The statements about single steps -/

/-- Settles O30: the byte is that of R200, and a marker is told from other bytes by R111. -/
theorem txPayloadBytes : Obligations.TxPayloadBytes := by
  refine fun s p hp => ⟨fun b hst hbyte => ?_, fun hst => ⟨_, State.txStep_sentEsc hp hst, s.sends_sent _ _ _⟩⟩
  have hb : s.txByte p s.tx.pos.toNat = some b := by
    cases p with
    | drv i => exact congrArg some hbyte.symm
    | app g =>
      obtain ⟨hadmits, rfl⟩ := hbyte
      exact State.memRead_eq_some.2 ⟨hadmits, rfl⟩
  rw [State.txStep_data hp hst]
  by_cases hr : isReserved b = true
  · simp only [if_pos (isReserved_iff.1 hr)]
    exact ⟨_, State.txData_marker hb hr, s.sends_sent _ _ _⟩
  · simp only [if_neg (mt isReserved_iff.2 hr)]
    exact ⟨_, State.txData_plain hb (Bool.of_not_eq_true hr), s.sends_sent _ _ _⟩

/-- Settles O31: `txEnd` writes the packet's record and FREEQ, and the rest is LINK's and TXE's. -/
theorem txEndCompletesThePacket : Obligations.TxEndCompletesThePacket := by
  intro s p h hst hp
  have done := completed_txEnd (h.hasSlot_of_tx hp)
  refine ⟨_, State.txStep_sentAllData hp hst, ?_⟩
  cases p with
  | drv i => exact ⟨rfl, rfl, rfl, rfl, ⟨rfl, rfl, rfl, rfl, rfl, rfl, rfl⟩, rfl, rfl, rfl, rfl, rfl, done, rfl⟩
  | app g =>
    exact ⟨rfl, rfl, rfl, rfl, ⟨rfl, rfl, rfl, rfl, rfl, rfl, rfl⟩, rfl, rfl, rfl, rfl, rfl, done,
      (List.append_nil _).symm⟩

/-- Settles O27: a turn is the step where there is one, and a read at an address not admitted is none. -/
theorem txeStepsOnReadyAndEnabled : Obligations.TxeStepsOnReadyAndEnabled := by
  intro s
  have stuck : s.txStep = none → s.turn .txe = .next s := fun hnone => by simp [State.turn, State.txTurn, hnone]
  refine ⟨fun hoff => ?_, fun hready hie => ⟨fun t ht => ?_, stuck⟩, fun g hst hp hadmits => stuck ?_⟩
  · simp only [State.turn, State.txTurn, if_neg hoff]
  · simp only [State.turn, State.txTurn, if_pos (And.intro hready hie), ht, Option.getD_some]
  · rw [State.txStep_data hp hst]
    exact State.txData_refused (if_neg (ne_true_of_eq_false hadmits))

/-- Settles O28: TXQ is empty or has a head. -/
theorem txIdleStartsOrDisables : Obligations.TxIdleStartsOrDisables := by
  intro s hst
  split
  · next hq => exact State.txStep_idle_empty hst hq
  · next p rest hq => exact ⟨_, State.txStep_idle_head hst hq, State.sends_sent _ _ _ _⟩

/-- Settles O29: the step's equations in the four header states. -/
theorem txHeaderBytes : Obligations.TxHeaderBytes := by
  intro s p hp
  refine ⟨fun hst => ⟨_, State.txStep_sentStart hp hst, s.sends_sent _ _ _⟩, fun hst g hg howned => ?_,
    fun hst howned => ⟨_, State.txStep_sentFlags_size hp hst howned, s.sends_sent _ _ _⟩,
    fun hst => ⟨_, State.txStep_sentIndex hp hst, s.sends_sent _ _ _⟩,
    fun hst => ⟨_, State.txStep_sentSize1 hp hst, s.sends_sent _ _ _⟩⟩
  subst hg
  exact ⟨_, State.txStep_sentFlags_index hp hst howned, s.sends_sent _ _ _⟩

end Sys2Proof.Machine
end

section
/-! PROOFS. The framing law (42_tx_fsm.md R204): TXE's steps in a row emit the header, the escaped payload and END, and
between START and END they change nothing but LINK and TXE's registers. -/

namespace Sys2Proof.Machine

/-! ### Steps in a row -/

theorem State.txSlots_succ {s t : State} (h : s.txStep = some t) (n : Nat) : s.txSlots (n + 1) = t.txSlots n := by
  simp only [State.txSlots, h]

theorem State.txSlots_add {s t : State} {m : Nat} (h : s.txSlots m = some t) (n : Nat) :
    s.txSlots (m + n) = t.txSlots n := by
  induction m generalizing s with
  | zero =>
    cases h
    rw [Nat.zero_add]
  | succ m ih =>
    rw [Nat.succ_add]
    cases hstep : s.txStep with
    | none => simp [State.txSlots, hstep] at h
    | some u =>
      rw [State.txSlots_succ hstep] at h ⊢
      exact ih h

theorem State.Ok.txSlots {s t : State} {n : Nat} (h : s.Ok) (ht : s.txSlots n = some t) : t.Ok := by
  induction n generalizing s with
  | zero =>
    cases ht
    exact h
  | succ n ih =>
    cases hstep : s.txStep with
    | none => simp [State.txSlots, hstep] at ht
    | some u =>
      rw [State.txSlots_succ hstep] at ht
      exact ih (h.txStep hstep) ht

/-- As many steps of TXE as `w` has bytes send `w`, and change nothing else but TXE's registers and the level
`tx_ready`. -/
def State.Emits (s : State) (w : List Byte) (t : State) : Prop :=
  s.txSlots w.length = some t ∧ ∃ r x, t = s.sent w r x

theorem State.Emits.nil (s : State) : s.Emits [] s := ⟨rfl, _, _, s.sent_nil.symm⟩

theorem State.Emits.single {s : State} {b : Byte} {r : Bool} {x : TxEngine} (h : s.txStep = some (s.sent [b] r x)) :
    s.Emits [b] (s.sent [b] r x) :=
  ⟨State.txSlots_succ h 0, r, x, rfl⟩

theorem State.Emits.append {s t u : State} {v w : List Byte} (h : s.Emits v t) (h' : t.Emits w u) :
    s.Emits (v ++ w) u := by
  obtain ⟨ht, r, x, rfl⟩ := h
  obtain ⟨hu, r', x', rfl⟩ := h'
  exact ⟨by rw [List.length_append, State.txSlots_add ht, hu], r', x', s.sent_sent ..⟩

/-- What is sent leaves the records and the payload as they are. -/
theorem State.Emits.flagsOf {s t : State} {w : List Byte} (h : s.Emits w t) (p : PktId) :
    t.flagsOf p = s.flagsOf p := by
  obtain ⟨-, r, x, rfl⟩ := h
  exact s.flagsOf_sent w r x p

theorem State.Emits.lengthOf {s t : State} {w : List Byte} (h : s.Emits w t) (p : PktId) :
    t.lengthOf p = s.lengthOf p := by
  obtain ⟨-, r, x, rfl⟩ := h
  exact s.lengthOf_sent w r x p

theorem State.Emits.frameIndex {s t : State} {w : List Byte} (h : s.Emits w t) (p : PktId) :
    t.frameIndex p = s.frameIndex p := by
  obtain ⟨-, r, x, rfl⟩ := h
  cases p <;> rfl

theorem State.Emits.payload {s t : State} {w d : List Byte} {p : PktId} (h : s.Emits w t) (payload : s.Payload p d) :
    t.Payload p d := by
  obtain ⟨-, r, x, rfl⟩ := h
  simpa only [State.Payload, State.lengthOf_sent, State.txByte_sent] using payload

/-! ### The payload (R196 to R201) -/

/-- The packet in flight is `p`, and the bytes of its payload still to be sent are `d`. -/
structure State.Remains (s : State) (p : PktId) (d : List Byte) : Prop where
  pkt   : s.tx.pkt = some p
  state : if d = [] then s.tx.state = .sentAllData else s.tx.state = .sentSize2 ∨ s.tx.state = .sentData
  count : s.tx.pos.toNat + d.length = (s.lengthOf p).toNat
  bytes : ∀ k b, d[k]? = some b → s.txByte p (s.tx.pos.toNat + k) = some b

/-- A payload byte has been sent. -/
theorem State.Remains.advance {s : State} {p : PktId} {b : Byte} {d w : List Byte} {r : Bool} {x : TxEngine}
    (h : s.Remains p (b :: d)) (hp : x.pkt = some p) (hpos : x.pos = s.tx.pos) :
    (s.sent w r (x.advanced (s.lengthOf p))).Remains p d := by
  have hcount : s.tx.pos.toNat + (d.length + 1) = (s.lengthOf p).toNat := h.count
  have hnext : (s.tx.pos + 1).toNat = s.tx.pos.toNat + 1 :=
    toNat_add_one_of_lt (cap := (s.lengthOf p).toNat) (by omega) (Nat.le_of_lt_succ (s.lengthOf p).isLt)
  have hend : s.tx.pos + 1 = s.lengthOf p ↔ d = [] := by
    rw [← BitVec.toNat_inj, hnext, ← List.length_eq_zero_iff]
    omega
  constructor
  · exact hp
  · simp only [State.tx_sent, TxEngine.advanced, hpos, hend]
    split
    · rfl
    · exact .inr rfl
  · simp only [State.lengthOf_sent, State.tx_sent, TxEngine.advanced, hpos, hnext]
    omega
  · intro k c hk
    have hbyte := h.bytes (k + 1) c hk
    simp only [State.txByte_sent, State.tx_sent, TxEngine.advanced, hpos, hnext]
    rwa [Nat.add_assoc, Nat.add_comm 1]

theorem escaped_marker {b : Byte} (hr : isReserved b = true) : escaped [b] = [markESCAPE, b] := if_pos hr

theorem escaped_plain {b : Byte} (hr : isReserved b = false) : escaped [b] = [b] := if_neg (ne_true_of_eq_false hr)

theorem escaped_cons (b : Byte) (d : List Byte) : escaped (b :: d) = escaped [b] ++ escaped d := by
  simp only [escaped]
  split <;> rfl

/-- The next payload byte goes out, as it is or behind ESCAPE. -/
theorem State.Remains.emits_byte {s : State} {p : PktId} {b : Byte} {d : List Byte} (h : s.Remains p (b :: d)) :
    ∃ t, s.Emits (escaped [b]) t ∧ t.Remains p d := by
  have hb : s.txByte p s.tx.pos.toNat = some b := h.bytes 0 b rfl
  have hstep := State.txStep_data h.pkt h.state
  cases hr : isReserved b with
  | true =>
    have latched := State.Emits.single (hstep.trans (State.txData_marker hb hr))
    have literal := State.txStep_sentEsc (s := s.sent [markESCAPE] false { s.tx with lit := b, state := .sentEsc })
      h.pkt rfl
    rw [State.lengthOf_sent] at literal
    refine ⟨_, by rw [escaped_marker hr]; exact latched.append (.single literal), ?_⟩
    rw [State.sent_sent]
    exact h.advance h.pkt rfl
  | false =>
    have sent := State.Emits.single (hstep.trans (State.txData_plain hb hr))
    exact ⟨_, by rwa [escaped_plain hr], h.advance h.pkt rfl⟩

/-- Everything that remains goes out, escaped (R115). -/
theorem State.Remains.emits {s : State} {p : PktId} {d : List Byte} (h : s.Remains p d) :
    ∃ t, s.Emits (escaped d) t ∧ t.Remains p [] := by
  induction d generalizing s with
  | nil => exact ⟨s, .nil s, h⟩
  | cons b d ih =>
    obtain ⟨t, ht, remains⟩ := h.emits_byte
    obtain ⟨u, hu, rest⟩ := ih remains
    exact ⟨u, escaped_cons b d ▸ ht.append hu, rest⟩

/-! ### The header (R192 to R195) -/

/-- The wire flags. -/
theorem State.emits_flags {s : State} {p : PktId} (hp : s.tx.pkt = some p) (hst : s.tx.state = .sentStart) :
    ∃ t, s.Emits [wireFlags (s.flagsOf p)] t ∧ t.tx = { s.tx with state := .sentFlags } :=
  ⟨_, .single (State.txStep_sentStart hp hst), rfl⟩

/-- INDEX, for an application packet only, and SIZE low. -/
theorem State.emits_index_sizeLow {s : State} {p : PktId} (hp : s.tx.pkt = some p) (hst : s.tx.state = .sentFlags)
    (howned : isAppOwned (s.flagsOf p) = (s.frameIndex p).isSome) :
    ∃ t, s.Emits ((s.frameIndex p).toList ++ [lowByte (s.lengthOf p)]) t ∧ t.tx = { s.tx with state := .sentSize1 } := by
  cases p with
  | drv i => exact ⟨_, .single (State.txStep_sentFlags_size hp hst howned), rfl⟩
  | app g =>
    have sizeLow := State.txStep_sentIndex (p := .app g)
      (s := s.sent [(s.appPkt g).index] false { s.tx with state := .sentIndex }) hp rfl
    exact ⟨_, (State.Emits.single (State.txStep_sentFlags_index hp hst howned)).append (.single sizeLow), rfl⟩

/-- SIZE high: the whole payload remains. -/
theorem State.emits_sizeHigh {s : State} {p : PktId} {d : List Byte} (hp : s.tx.pkt = some p)
    (hst : s.tx.state = .sentSize1) (hpos : s.tx.pos = 0) (payload : s.Payload p d) :
    ∃ t, s.Emits [highByte (s.lengthOf p)] t ∧ t.Remains p d := by
  obtain ⟨hlen, hbytes⟩ := payload
  have hempty : s.lengthOf p = 0 ↔ d = [] := by
    rw [← List.length_eq_zero_iff, hlen, ← BitVec.toNat_inj]
    rfl
  refine ⟨_, .single (State.txStep_sentSize1 hp hst), hp, ?_, ?_, fun k b hk => ?_⟩
  · simp only [State.tx_sent, hempty]
    split
    · rfl
    · exact .inl rfl
  · simp [hpos, hlen]
  · obtain ⟨hlt, rfl⟩ := List.getElem?_eq_some_iff.1 hk
    simpa [hpos] using hbytes k hlt

/-- The header after START; then the whole payload remains. -/
theorem State.emits_header {s : State} {p : PktId} {d : List Byte} (hp : s.tx.pkt = some p)
    (hst : s.tx.state = .sentStart) (hpos : s.tx.pos = 0)
    (howned : isAppOwned (s.flagsOf p) = (s.frameIndex p).isSome) (payload : s.Payload p d) :
    ∃ t, s.Emits ([wireFlags (s.flagsOf p)] ++ ((s.frameIndex p).toList ++ [lowByte (s.lengthOf p)]) ++
      [highByte (s.lengthOf p)]) t ∧ t.Remains p d := by
  obtain ⟨t, flags, ht⟩ := State.emits_flags hp hst
  obtain ⟨u, low, hu⟩ := State.emits_index_sizeLow (s := t) (p := p) (by rw [ht, hp]) (by rw [ht])
    (by rwa [flags.flagsOf, flags.frameIndex])
  rw [flags.frameIndex, flags.lengthOf] at low
  have start := flags.append low
  obtain ⟨v, high, remains⟩ := State.emits_sizeHigh (s := u) (by rw [hu, ht, hp]) (by rw [hu])
    (by rw [hu, ht, hpos]) (start.payload payload)
  rw [start.lengthOf] at high
  exact ⟨v, start.append high, remains⟩

/-! ### The frame (R110, R204) -/

theorem frameOf_eq {s : State} {p : PktId} {d : List Byte} (f : Byte) (index : Option Byte) (payload : s.Payload p d) :
    frameOf f index d = [markSTART] ++ ([wireFlags f] ++ (index.toList ++ [lowByte (s.lengthOf p)]) ++
      [highByte (s.lengthOf p)] ++ escaped d) ++ [markEND] := by
  obtain ⟨hlen, -⟩ := payload
  have hn : BitVec.ofNat 16 d.length = s.lengthOf p := by rw [hlen, BitVec.ofNat_toNat, BitVec.setWidth_eq]
  simp [frameOf, hn]

/-- What stands between START and END goes out. -/
theorem State.emits_body {s : State} {p : PktId} {d : List Byte} (hp : s.tx.pkt = some p)
    (hst : s.tx.state = .sentStart) (hpos : s.tx.pos = 0)
    (howned : isAppOwned (s.flagsOf p) = (s.frameIndex p).isSome) (payload : s.Payload p d) :
    ∃ w t, frameOf (s.flagsOf p) (s.frameIndex p) d = [markSTART] ++ w ++ [markEND] ∧ s.Emits w t ∧
      t.tx.pkt = some p ∧ t.tx.state = .sentAllData := by
  obtain ⟨t, header, remains⟩ := State.emits_header hp hst hpos howned payload
  obtain ⟨u, data, done⟩ := remains.emits
  exact ⟨_, u, frameOf_eq _ _ payload, header.append data, done.pkt, done.state⟩

/-- A marker byte takes one more. -/
theorem length_escaped (d : List Byte) : (escaped d).length = d.length + (d.filter isReserved).length := by
  induction d with
  | nil => rfl
  | cons b d ih =>
    rw [escaped_cons, List.length_append, ih]
    cases hr : isReserved b with
    | true => rw [escaped_marker hr, List.filter_cons_of_pos hr]; simp; omega
    | false => rw [escaped_plain hr, List.filter_cons_of_neg (ne_true_of_eq_false hr)]; simp; omega

theorem length_frameOf (f : Byte) (index : Option Byte) (d : List Byte) : (frameOf f index d).length =
    5 + index.toList.length + d.length + (d.filter isReserved).length := by
  simp [frameOf, length_escaped]
  omega

/-- INDEX is in the frame of an application-owned packet (R29, R114). -/
theorem State.Ok.isAppOwned_eq {s : State} {p : PktId} (h : s.Ok) (hp : s.HasSlot p) :
    isAppOwned (s.flagsOf p) = (s.frameIndex p).isSome := by
  cases p with
  | drv i => exact (h.drv hp).owned
  | app g => exact (h.app hp).owned

theorem reserved_eq_isReserved : (fun b : Byte => decide (b = 0x8C ∨ b = 0x9D ∨ b = 0xAE)) = isReserved :=
  funext fun _ => Bool.eq_iff_iff.2 (decide_eq_true_iff.trans isReserved_iff.symm)

/-- Settles O32: START, what stands between, and END, one after the other. -/
theorem transmitterEmitsTheFrame : Obligations.TransmitterEmitsTheFrame := by
  intro s p rest d hinv hst hq payload
  have h := State.inv_iff.1 hinv
  have howned := h.isAppOwned_eq (h.placed.slots p (by simp [State.places, hq]))
  have first : s.txSlots 1 = some (s.started p rest) := State.txSlots_succ (State.txStep_idle_head hst hq) 0
  obtain ⟨w, u, hframe, ⟨hslots, r, x, rfl⟩, hpkt, hdone⟩ := State.emits_body (s := s.started p rest) (p := p) (d := d)
    rfl rfl rfl (by cases p <;> exact howned) (by cases p <;> exact payload)
  obtain ⟨t, hend, wire, rxData, incoming, tx, outside, rx, txq, rxq, txie, mem, completed, freeq⟩ :=
    txEndCompletesThePacket _ p ((h.txSlots first).txSlots hslots).located hdone hpkt
  have hframe : frameOf (s.flagsOf p) (s.frameIndex p) d = [markSTART] ++ w ++ [markEND] := by
    cases p <;> exact hframe
  refine ⟨?_, t, ?_, ?_, ?_, ?_, txq, ?_, freeq, mem, rx, rxq, txie, rxData, incoming, outside⟩
  · rw [length_frameOf, reserved_eq_isReserved, show (s.flagsOf p).getLsbD 7 = _ from howned]
    cases s.frameIndex p <;> rfl
  · have body := (State.txSlots_add first w.length).trans hslots
    rw [hframe, List.length_append, List.length_append]
    exact (State.txSlots_add body 1).trans (State.txSlots_succ hend 0)
  · rw [wire, hframe]
    simp [State.started, State.sent, markEND]
  · rw [tx]
  · rw [tx]
  · cases p <;> exact completed

end Sys2Proof.Machine
end

section
/-! PROOFS. What the foreground leaves alone: a command writes no record of a packet that waits in TXQ or RXQ or that an
engine has (10_state.md R39, 40_pool_queues.md R147), and no access puts a byte on the line. -/

namespace Sys2Proof.Machine

/-! ### Records -/

theorem State.SameRecord.refl (s : State) (p : PktId) : s.SameRecord s p := by cases p <;> rfl

theorem State.SameRecord.trans {s t u : State} {p : PktId} (h : s.SameRecord t p) (h' : t.SameRecord u p) :
    s.SameRecord u p := by
  cases p <;> exact Eq.trans h' h

/-- Each check of a command (R147, R260, R291) is a choice between a bare result and the command's body. -/
theorem State.SameRecord.ite {c : Prop} [Decidable c] {s t u : State} {p : PktId} (ht : c → s.SameRecord t p)
    (hu : ¬c → s.SameRecord u p) : s.SameRecord (if c then t else u) p := by
  split
  · next h => exact ht h
  · next h => exact hu h

theorem State.sameRecord_setFlags (s : State) {p q : PktId} (h : p ≠ q) (f : Byte) :
    s.SameRecord (s.setFlags q f) p := by
  cases q with
  | drv i => exact s.sameRecord_setDrv h _
  | app g => exact s.sameRecord_setApp h _

theorem State.sameRecord_setFlagsLength (s : State) {p q : PktId} (h : p ≠ q) (f : Byte) (n : Half) :
    s.SameRecord (s.setFlagsLength q f n) p := by
  cases q with
  | drv i => exact s.sameRecord_setDrv h _
  | app g => exact s.sameRecord_setApp h _

theorem State.sameRecord_setLength (s : State) {p q : PktId} (h : p ≠ q) (n : Half) :
    s.SameRecord (s.setLength q n) p := by
  cases q with
  | drv i => exact s.sameRecord_setDrv h _
  | app g => exact s.sameRecord_setApp h _

/-! ### Commands -/

/-- The packet stands in a place from which no command takes packets to write their records: not in FREEQ, not open in
the builder, not with the consumer or the application. -/
structure State.Settled (s : State) (p : PktId) : Prop where
  placed   : p ∈ s.places
  notFree  : ∀ i ∈ s.freeq, p ≠ .drv i
  notBuilt : ∀ i, s.bld.pkt = some i → p ≠ .drv i

theorem State.Settled.ne_of_loose {s : State} {p q : PktId} (h : s.Settled p) (loose : s.Loose q) : p ≠ q :=
  fun e => loose.out (e ▸ h.placed)

theorem State.sameRecord_bldFinish (s : State) {p : PktId} {i : Nat} (h : p ≠ .drv i) (last : Bool) :
    s.SameRecord (s.bldFinish last i) p :=
  s.sameRecord_setFlags h _

theorem State.sameRecord_bldOpen (s : State) {p : PktId} {i : Nat} (h : p ≠ .drv i) (f : Byte) :
    s.SameRecord (s.bldOpen i f) p :=
  s.sameRecord_setFlagsLength h f 0

theorem State.sameRecord_bldStore (s : State) {p : PktId} {i : Nat} (h : p ≠ .drv i) (b : Byte) :
    s.SameRecord (s.bldStore i b) p := by
  unfold State.bldStore
  extract_lets q n s1 bld s2
  have stored : s.SameRecord s1 p := (s.sameRecord_setDrv h _).trans (State.sameRecord_setLength _ h n)
  have closed : s.SameRecord s2 p :=
    .ite (fun _ => stored.trans (State.sameRecord_bldFinish { s1 with bld := bld } h false)) (fun _ => stored)
  exact closed

theorem State.Settled.bldFlush {s : State} {p : PktId} (h : s.Settled p) : s.SameRecord s.bldFlush p := by
  cases hb : s.bld.pkt with
  | none => rw [State.bldFlush_none hb]; exact .refl s p
  | some i => rw [State.bldFlush_some hb]; exact s.sameRecord_bldFinish (h.notBuilt i hb) true

theorem State.Settled.append {s : State} {p : PktId} (h : s.Settled p) (b : Byte) : s.SameRecord (s.append b) p := by
  unfold State.append
  rcases s.bldLazy_cases with ⟨i, hb, eq⟩ | ⟨i, rest, -, hq, eq⟩ | ⟨-, -, eq⟩ <;> rw [eq]
  · exact s.sameRecord_bldStore (h.notBuilt i hb) b
  · have hne := h.notFree i (by simp [hq])
    exact (State.sameRecord_bldOpen { s with freeq := rest } hne _).trans (State.sameRecord_bldStore _ hne b)
  · exact .refl s p

theorem State.Settled.appendInfer {s : State} {p : PktId} (h : s.Settled p) (b : Byte) :
    s.SameRecord ((s.infer b).append b) p := by
  obtain ⟨carry, eq⟩ := s.infer_eq b
  rw [eq]
  exact State.Settled.append (s := { s with bld := { s.bld with carry := carry } }) { h with } b

theorem State.Settled.execStartOutgoing {s t : State} {p : PktId} {usage : Byte} (h : s.Settled p)
    (ht : execStartOutgoing usage s = .next t) : s.SameRecord t p := by
  unfold Machine.execStartOutgoing at ht
  extract_lets s1 bld s2 flags at ht
  have flushed : s.SameRecord s2 p := h.bldFlush
  split at ht <;> cases ht
  · exact flushed
  · next i rest hq =>
    have hq : s.freeq = i :: rest := s.bldFlush_freeq.symm.trans (dequeue_eq_some.1 hq)
    exact flushed.trans (State.sameRecord_bldOpen { s2 with freeq := rest } (h.notFree i (by simp [hq])) flags)

theorem execRxCollect_sameRecord {s t : State} {p : PktId} (ht : execRxCollect s = .next t) : s.SameRecord t p := by
  unfold Machine.execRxCollect at ht
  split at ht <;> cases ht <;> exact .refl s p

/-- A command that passes its checks on handle `a` may write that slot, and no other (R260, R147). -/
theorem State.Settled.checkApp {s body : State} {p : PktId} {a : Byte} (h : s.Settled p)
    (hbody : p ≠ .app (slotOfA a) → s.SameRecord body p) : s.SameRecord (s.checkHandle a (s.checkBusy a body)) p :=
  .ite (fun _ => .refl s p) fun ha => .ite (fun _ => .refl s p) fun hb =>
    hbody (h.ne_of_loose (State.loose_of_not_busy (Nat.lt_of_not_le ha) (Bool.of_not_eq_true hb)))

theorem State.Settled.exec {s t : State} {p : PktId} {c : Instr} (h : s.Settled p) (ht : exec c s = .next t) :
    s.SameRecord t p := by
  cases c with
  | startOutgoing usage => exact h.execStartOutgoing ht
  | appendByte b => cases ht; exact h.append b
  | appendInfer b => cases ht; exact h.appendInfer b
  | flush => cases ht; exact h.bldFlush
  | queueTx a flags => cases ht; exact h.checkApp fun hne => s.sameRecord_setApp hne _
  | armRx a => cases ht; exact h.checkApp fun hne => s.sameRecord_setApp hne _
  | release a => cases ht; exact h.checkApp fun hne => s.sameRecord_setApp hne _
  | isTxDone a => cases ht; exact .ite (fun _ => .refl s p) fun _ => .refl s p
  | isRxDone a => cases ht; exact .ite (fun _ => .refl s p) fun _ => .refl s p
  | rxCollect => exact execRxCollect_sameRecord ht
  | rxReadByte a => cases ht; exact .ite (fun _ => .ite (fun _ => .refl s p) fun _ => .refl s p) fun _ => .refl s p
  | rxFree a =>
    cases ht
    exact .ite (fun hheld => s.sameRecord_setFlagsLength (h.ne_of_loose (State.loose_of_held hheld)) _ _)
      fun _ => .refl s p
  | nop => cases ht; exact .refl s p
  | setActive bit => cases ht; exact .refl s p
  | queryActive => cases ht; exact .refl s p

theorem State.Settled.runCommand {s t : State} {p : PktId} {w : Word} (h : s.Settled p)
    (ht : s.runCommand w = .next t) : s.SameRecord t p := by
  unfold State.runCommand at ht
  split at ht
  · exact h.exec ht
  · cases ht; exact .refl s p

theorem State.runCommand_link {s t : State} {w : Word} (ht : s.runCommand w = .next t) : t.link = s.link := by
  unfold State.runCommand at ht
  split at ht
  · have outside := exec_outside ht
    simp only [State.outside, Prod.mk.injEq] at outside
    obtain ⟨-, -, link, -⟩ := outside
    exact link
  · cases ht; rfl

/-! ### The foreground -/

theorem State.hostWrite_eq (s : State) (a : Nat) (b : Byte) :
    ∃ m o, s.hostWrite a b = { s with mem := m, oracle := o } := by
  rcases s.hostWrite_cases a b with eq | ⟨-, ⟨-, eq⟩ | ⟨-, eq⟩⟩ <;> exact ⟨_, _, eq⟩

theorem State.Settled.fgTurn {s t : State} {p : PktId} (h : s.Settled p) (ht : s.fgTurn = .next t) :
    s.SameRecord t p := by
  obtain ⟨w, f, -, hrun⟩ | ⟨a, b, rest, -, -, rfl⟩ | ⟨f, r, o, rfl⟩ := State.fgTurn_cases ht
  · exact State.Settled.runCommand (s := { s with fg := f }) { h with } hrun
  · obtain ⟨m, o, eq⟩ := State.hostWrite_eq { s with fg := { s.fg with ops := rest } } a b
    rw [eq]
    exact .refl s p
  · exact .refl s p

theorem State.fgTurn_link {s t : State} (ht : s.fgTurn = .next t) : t.link = s.link := by
  obtain ⟨w, f, -, hrun⟩ | ⟨a, b, rest, -, -, rfl⟩ | ⟨f, r, o, rfl⟩ := State.fgTurn_cases ht
  · exact State.runCommand_link (s := { s with fg := f }) hrun
  · obtain ⟨m, o, eq⟩ := State.hostWrite_eq { s with fg := { s.fg with ops := rest } } a b
    rw [eq]
  · rfl

end Sys2Proof.Machine
end

section
/-! PROOFS. What RXE leaves alone: it writes the records of the packets it binds and fills, and puts no byte on the line
(43_rx_fsm.md R220 to R234). -/

namespace Sys2Proof.Machine


/-- RXE has no way to the packet: it is not the one bound, it is not in FREEQ, and it is not an armed slot (R222, R223). -/
def State.Unreceived (s : State) (p : PktId) : Prop :=
  s.rx.pkt ≠ some p ∧ (∀ i ∈ s.freeq, p ≠ .drv i) ∧ ∀ g, s.armed g = true → p ≠ .app g

theorem State.Unreceived.ne_of_bound {s : State} {p q : PktId} (h : s.Unreceived p) (hq : s.rx.pkt = some q) : p ≠ q :=
  fun e => h.1 (e ▸ hq)

theorem State.Unreceived.ne_of_free {s : State} {p : PktId} {i : Nat} (h : s.Unreceived p) (hi : i ∈ s.freeq) :
    p ≠ .drv i := h.2.1 i hi

theorem State.Unreceived.ne_of_armed {s : State} {p : PktId} {g : Nat} (h : s.Unreceived p) (hg : s.armed g = true) :
    p ≠ .app g := h.2.2 g hg

/-- LINK and the records of the packets RXE has no way to are as before. -/
def State.LeftByRx (s t : State) : Prop := t.link = s.link ∧ ∀ p, s.Unreceived p → s.SameRecord t p

theorem State.LeftByRx.refl (s : State) : s.LeftByRx s := ⟨rfl, fun p _ => .refl s p⟩

theorem State.LeftByRx.ite {c : Prop} [Decidable c] {s t u : State} (ht : c → s.LeftByRx t) (hu : ¬c → s.LeftByRx u) :
    s.LeftByRx (if c then t else u) := by
  split
  · next h => exact ht h
  · next h => exact hu h

theorem State.leftByRx_rxAbort (s : State) : s.LeftByRx s.rxAbort := by
  unfold State.rxAbort
  cases hp : s.rx.pkt with
  | none => exact .refl s
  | some q =>
    have keep : ∀ p f n, s.Unreceived p → s.SameRecord (s.setFlagsLength q f n) p := fun p f n h =>
      s.sameRecord_setFlagsLength (h.ne_of_bound hp) f n
    cases q with
    | drv i => exact ⟨rfl, fun p h => keep p _ _ h⟩
    | app g => exact ⟨rfl, fun p h => keep p _ _ h⟩

theorem State.leftByRx_rxComplete {s : State} {q : PktId} (hq : s.rx.pkt = some q) : s.LeftByRx (s.rxComplete q) := by
  have keep : ∀ p f, s.Unreceived p → s.SameRecord (s.setFlags q f) p := fun p f h =>
    s.sameRecord_setFlags (h.ne_of_bound hq) f
  cases q with
  | drv i => exact ⟨rfl, fun p h => keep p _ h⟩
  | app g => exact ⟨rfl, fun p h => keep p _ h⟩

theorem State.leftByRx_rxTakeFlags (s : State) (b : Byte) : s.LeftByRx (s.rxTakeFlags b) := by
  unfold State.rxTakeFlags
  extract_lets x s1
  refine .ite (fun _ => .refl s) fun _ => ?_
  split
  · exact s1.leftByRx_rxAbort
  · next i rest hq =>
    have hi : i ∈ s.freeq := by simp [show s.freeq = i :: rest from dequeue_eq_some.1 hq]
    exact ⟨rfl, fun p h => State.sameRecord_setFlagsLength { s1 with freeq := rest } (h.ne_of_free hi) _ _⟩

theorem State.leftByRx_rxTakeIndex (s : State) (b : Byte) : s.LeftByRx (s.rxTakeIndex b) :=
  .ite (fun _ => s.leftByRx_rxAbort) fun h => ⟨rfl, fun _ hp =>
    s.sameRecord_setFlagsLength (hp.ne_of_armed (Bool.of_not_eq_false (not_or.1 h).2)) _ _⟩

theorem State.leftByRx_rxSizeHigh (s : State) (p : PktId) (b : Byte) : s.LeftByRx (s.rxSizeHigh p b) :=
  .ite (fun _ => State.leftByRx_rxAbort { s with rx := { s.rx with size := b ++ lowByte s.rx.size } }) fun _ => .refl s

theorem State.leftByRx_rxEnd {s : State} {p : PktId} (hp : s.rx.pkt = some p) (b : Byte) : s.LeftByRx (s.rxEnd p b) :=
  State.LeftByRx.ite (c := b = markEND) (fun _ => State.leftByRx_rxComplete hp) fun _ => s.leftByRx_rxAbort

theorem State.rxStore_leftByRx {s t : State} {q : PktId} {b : Byte} (hq : s.rx.pkt = some q)
    (ht : s.rxStore q b = some t) : s.LeftByRx t := by
  obtain ⟨s1, hw, rfl⟩ := State.rxStore_eq_some ht
  have counted : ∀ p, s.Unreceived p → s1.SameRecord (s1.setLength q (s.lengthOf q + 1)) p := fun p h =>
    s1.sameRecord_setLength (h.ne_of_bound hq) _
  cases q with
  | drv i =>
    cases hw
    exact ⟨rfl, fun p h => (s.sameRecord_setDrv (h.ne_of_bound hq) _).trans (counted p h)⟩
  | app g =>
    obtain ⟨-, rfl⟩ := State.memWrite_eq_some.1 hw
    exact ⟨rfl, counted⟩

theorem State.rxStep_leftByRx {s t : State} {b : Byte} (ht : s.rxStep b = some t) : s.LeftByRx t := by
  unfold State.rxStep at ht
  cases hst : s.rx.state <;> simp only [hst, Option.some.injEq, Option.map_eq_some_iff, Option.bind_eq_some_iff] at ht
  case awaitStart => exact ht ▸ .ite (fun _ => .refl s) fun _ => .refl s
  case awaitFlags => exact ht ▸ s.leftByRx_rxTakeFlags b
  case awaitIndex => exact ht ▸ s.leftByRx_rxTakeIndex b
  case awaitSize1 => exact ht ▸ .refl s
  case awaitSize2 =>
    obtain ⟨p, -, rfl⟩ := ht
    exact s.leftByRx_rxSizeHigh p b
  case awaitDataEsc =>
    obtain ⟨p, hp, ht⟩ := ht
    unfold State.rxDataEsc at ht
    split at ht
    · cases ht; exact .refl s
    · exact State.rxStore_leftByRx hp ht
  case awaitData =>
    obtain ⟨p, hp, ht⟩ := ht
    exact State.rxStore_leftByRx hp ht
  case awaitEnd =>
    obtain ⟨p, hp, rfl⟩ := ht
    exact State.leftByRx_rxEnd hp b

theorem State.sameRecord_rxTurn {s : State} {p : PktId} (h : s.Unreceived p) : s.SameRecord s.rxTurn p := by
  rcases s.rxTurn_cases with eq | ⟨b, -, ht⟩
  · rw [eq]; exact .refl s p
  · obtain ⟨-, records⟩ := State.rxStep_leftByRx ht
    exact records p h

theorem State.rxTurn_wire (s : State) : s.rxTurn.link.wire = s.link.wire := by
  rcases s.rxTurn_cases with eq | ⟨b, -, ht⟩
  · rw [eq]
  · obtain ⟨link, -⟩ := State.rxStep_leftByRx ht
    rw [link]
    rfl

end Sys2Proof.Machine
end

section
/-! PROOFS. The transmit invariants (42_tx_fsm.md R203), and who puts bytes on the line (60_exceptions.md R324, R328). -/

namespace Sys2Proof.Machine

/-! ### The packet in flight -/

/-- The packet in flight stands in no other place (R39). -/
theorem State.Ok.settled_of_tx {s : State} {p : PktId} (h : s.Ok) (hp : s.tx.pkt = some p) : s.Settled p := by
  have out := (h.take_tx hp).2.out
  exact {
    placed := by simp [State.places, hp]
    notFree := fun i hi e => out (by simp [State.places, e, hi])
    notBuilt := fun i hi e => out (by simp [State.places, e, hi]) }

/-- Nor can RXE take it: its flags are those of a packet being sent (R266). -/
theorem State.Ok.unreceived_of_tx {s : State} {p : PktId} (h : s.Ok) (hp : s.tx.pkt = some p) : s.Unreceived p := by
  refine ⟨fun hr => (h.take_tx hp).2.out (by simp [State.places, hr]), (h.settled_of_tx hp).notFree, fun g hg e => ?_⟩
  subst e
  have sending : (s.appPkt g).flags &&& 0x70 = 0x10 := (h.sending _ hp).2
  rw [State.armed_iff.1 hg] at sending
  cases sending

/-- Only TXE and a reset write the record of the packet in flight. -/
theorem State.Ok.turn_sameRecord {s t : State} {p : PktId} {d : Draw} (h : s.Ok) (hp : s.tx.pkt = some p)
    (ht : s.turn d = .next t) (htxe : d ≠ .txe) (hreset : d ≠ .reset) : s.SameRecord t p := by
  cases d with
  | fg => exact (h.settled_of_tx hp).fgTurn ht
  | rxe => cases ht; exact State.sameRecord_rxTurn (h.unreceived_of_tx hp)
  | txe => exact absurd rfl htxe
  | linkByte =>
    cases ht
    unfold State.linkPresent
    split <;> exact .refl s p
  | linkReady r => cases ht; exact .refl s p
  | reset => exact absurd rfl hreset

/-- Settles O58: `TxOk` is a part of the invariant, and the packet in flight stands in no place but TXE's. -/
theorem stepKeepsTransmitInvariants : Obligations.StepKeepsTransmitInvariants := by
  intro s t hinv ht
  obtain ⟨-, -, -, -, txOk, -⟩ := stepKeepsTheInvariant s t hinv ht
  refine ⟨txOk, fun htxe hreset => ?_⟩
  have h := (State.inv_iff.1 hinv).afterDraw
  obtain ⟨o, ho⟩ := s.afterDraw_eq
  rw [ho] at h
  rw [step, ho] at ht
  exact ⟨fun i hp => h.turn_sameRecord hp ht htxe hreset, fun g hp => h.turn_sameRecord hp ht htxe hreset⟩

/-! ### The bytes on the line -/

theorem State.link_txEnd (s : State) (p : PktId) : (s.txEnd p).link = (s.emit markEND).link := by
  cases p <;> rfl

/-- A step of TXE emits one byte, or none (R191 to R199). -/
theorem State.txStep_link {s t : State} (ht : s.txStep = some t) : t.link = s.link ∨ ∃ b, t.link = (s.emit b).link := by
  unfold State.txStep at ht
  cases hst : s.tx.state <;> simp only [hst, Option.some.injEq, Option.map_eq_some_iff, Option.bind_eq_some_iff] at ht
  case idle =>
    subst ht
    unfold State.txIdle
    split
    · exact .inl rfl
    · exact .inr ⟨_, rfl⟩
  case sentFlags =>
    obtain ⟨p, -, ht⟩ := ht
    unfold State.txIndexOrSize at ht
    split at ht
    · obtain ⟨x, -, rfl⟩ := Option.map_eq_some_iff.1 ht
      exact .inr ⟨_, rfl⟩
    · cases ht; exact .inr ⟨_, rfl⟩
  case sentSize2 | sentData =>
    obtain ⟨p, -, ht⟩ := ht
    obtain ⟨b, -, ⟨-, rfl⟩ | ⟨-, rfl⟩⟩ := State.txData_eq_some ht <;> exact .inr ⟨_, rfl⟩
  case sentAllData =>
    obtain ⟨p, -, rfl⟩ := ht
    exact .inr ⟨_, s.link_txEnd p⟩
  case sentStart | sentIndex | sentSize1 | sentEsc =>
    obtain ⟨p, -, rfl⟩ := ht
    exact .inr ⟨_, rfl⟩

/-- What a turn does to the bytes emitted (R190, R324). -/
theorem State.turn_wire {s t : State} {d : Draw} (ht : s.turn d = .next t) :
    t.link.wire = s.link.wire ∨ (d = .txe ∧ s.link.txReady = true ∧ s.txie = true ∧ t.link.txReady = false ∧
      ∃ b, t.link.wire = s.link.wire ++ [b]) := by
  cases d with
  | fg => exact .inl (congrArg Link.wire (State.fgTurn_link ht))
  | rxe => cases ht; exact .inl s.rxTurn_wire
  | txe =>
    cases ht
    obtain eq | ⟨hready, hie, hstep⟩ := s.txTurn_cases
    · exact .inl (by rw [eq])
    · obtain same | ⟨b, eq⟩ := State.txStep_link hstep
      · exact .inl (by rw [same])
      · exact .inr ⟨rfl, hready, hie, by rw [eq]; rfl, b, by rw [eq]; rfl⟩
  | linkByte =>
    cases ht
    unfold State.linkPresent
    split <;> exact .inl rfl
  | linkReady r => cases ht; exact .inl rfl
  | reset => cases ht; exact .inl rfl

/-- Settles O48: of the agents' turns only TXE's step emits. -/
theorem wireGrowsByTxeOnly : Obligations.WireGrowsByTxeOnly := by
  intro s t ht
  obtain ⟨o, ho⟩ := s.afterDraw_eq
  rw [step, ho] at ht
  exact State.turn_wire (s := { s with oracle := o }) ht

end Sys2Proof.Machine
end

section
/-! PROOFS. The receive engine (43_rx_fsm.md R220 to R233): an equation for its step in each state and for what the step
does to the packet, from which the statements about single steps are read off. -/

namespace Sys2Proof.Machine

/-- Settles O59: `RxOk` and `Bounded` are parts of the invariant. -/
theorem stepKeepsReceiveBounds : Obligations.StepKeepsReceiveBounds := fun s t h ht => by
  obtain ⟨-, -, -, bounded, -, rxOk, -⟩ := stepKeepsTheInvariant s t h ht
  exact ⟨rxOk, bounded⟩

/-! ### A step in each state -/

theorem State.rxStep_awaitStart {s : State} (hst : s.rx.state = .awaitStart) (b : Byte) :
    s.rxStep b = some (s.rxStart b) := by
  simp only [State.rxStep, hst]

theorem State.rxStep_awaitFlags {s : State} (hst : s.rx.state = .awaitFlags) (b : Byte) :
    s.rxStep b = some (s.rxTakeFlags b) := by
  simp only [State.rxStep, hst]

theorem State.rxStep_awaitIndex {s : State} (hst : s.rx.state = .awaitIndex) (b : Byte) :
    s.rxStep b = some (s.rxTakeIndex b) := by
  simp only [State.rxStep, hst]

theorem State.rxStep_awaitSize1 {s : State} (hst : s.rx.state = .awaitSize1) (b : Byte) :
    s.rxStep b = some (s.rxSizeLow b) := by
  simp only [State.rxStep, hst]

theorem State.rxStep_awaitSize2 {s : State} {p : PktId} (hst : s.rx.state = .awaitSize2) (hp : s.rx.pkt = some p)
    (b : Byte) : s.rxStep b = some (s.rxSizeHigh p b) := by
  simp only [State.rxStep, hst, hp, Option.map_some]

/-- The states whose step stores the byte: an ESCAPE before it is taken alone (R226, R227). -/
theorem State.rxStep_data {s : State} {p : PktId} {b : Byte} (hp : s.rx.pkt = some p)
    (hst : s.rx.state = .awaitData ∨ s.rx.state = .awaitDataEsc ∧ b ≠ markESCAPE) : s.rxStep b = s.rxStore p b := by
  rcases hst with hst | ⟨hst, hb⟩
  · simp only [State.rxStep, hst, hp, Option.bind_some]
  · simp only [State.rxStep, hst, hp, Option.bind_some, State.rxDataEsc, if_neg hb]

theorem State.rxStep_escape {s : State} {p : PktId} (hp : s.rx.pkt = some p) (hst : s.rx.state = .awaitDataEsc) :
    s.rxStep markESCAPE = some (s.setRxState .awaitData) := by
  simp only [State.rxStep, hst, hp, Option.bind_some, State.rxDataEsc, if_true]

theorem State.rxStep_awaitEnd {s : State} {p : PktId} (hst : s.rx.state = .awaitEnd) (hp : s.rx.pkt = some p)
    (b : Byte) : s.rxStep b = some (s.rxEnd p b) := by
  simp only [State.rxStep, hst, hp, Option.map_some]

/-! ### Records -/

theorem State.Located.hasSlot_of_rx {s : State} {p : PktId} (h : s.Located) (hp : s.rx.pkt = some p) : s.HasSlot p :=
  (State.located_iff.1 h).slots p (by simp [State.places, hp])

/-- Writing one record leaves the others alone. -/
theorem otherApps_setApp (s : State) (g : Nat) (a : AppPkt) : OtherApps s (s.setApp g a) g :=
  ⟨s.nApp_setApp g a, fun _ hk => s.appPkt_setApp_other hk a⟩

/-- DONE is set and READY clear in the packet received, and nothing else of it changes (R231). -/
theorem completed_rxComplete {s : State} {p : PktId} (h : s.HasSlot p) : Completed s (s.rxComplete p) p := by
  cases p with
  | drv i => exact ⟨State.drvPkt_setDrv_same h _, otherDrivers_setDrv s i _, rfl⟩
  | app g => exact ⟨State.appPkt_setApp_same h _, otherApps_setApp s g _, rfl⟩

/-! ### Aborting (R232) -/

/-- RXE's registers after an abort. -/
def RxEngine.aborted (x : RxEngine) : RxEngine := { x with pkt := none, state := .awaitStart }

theorem State.rxAbort_none {s : State} (hp : s.rx.pkt = none) : s.rxAbort = { s with rx := s.rx.aborted } := by
  simp only [State.rxAbort, hp]
  rfl

theorem State.rxAbort_drv {s : State} {i : Nat} (hp : s.rx.pkt = some (.drv i)) :
    s.rxAbort = { s.setDrv i { s.drvPkt i with flags := 0, length := 0 } with
      freeq := s.freeq ++ [i], rx := s.rx.aborted } := by
  simp only [State.rxAbort, hp]
  rfl

theorem State.rxAbort_app {s : State} {g : Nat} (hp : s.rx.pkt = some (.app g)) :
    s.rxAbort = { s.setApp g { s.appPkt g with flags := armedFlags, length := 0 } with rx := s.rx.aborted } := by
  simp only [State.rxAbort, hp]
  rfl

/-- An abort writes RXE's registers, and at most a record and FREEQ. -/
theorem State.rxAbort_eq (s : State) :
    ∃ d a q, s.rxAbort = { s with drv := d, app := a, freeq := q, rx := s.rx.aborted } := by
  rcases hp : s.rx.pkt with _ | ⟨i⟩ | ⟨g⟩
  · exact ⟨_, _, _, State.rxAbort_none hp⟩
  · exact ⟨_, _, _, State.rxAbort_drv hp⟩
  · exact ⟨_, _, _, State.rxAbort_app hp⟩

/-- What an abort does to the packet RXE was filling, the registers being `x` by then. -/
theorem State.Located.aborted_rxAbort {s : State} (h : s.Located) {x : RxEngine} (hx : x.pkt = s.rx.pkt) :
    Aborted s (State.rxAbort { s with rx := x }) x := by
  obtain ⟨d, a, q, eq⟩ := State.rxAbort_eq { s with rx := x }
  refine ⟨by rw [eq]; rfl, fun hp => ?_, fun i hp => ?_, fun g hp => ?_, ?_⟩
  · rw [State.rxAbort_none (hx.trans hp)]
    exact ⟨rfl, rfl, rfl⟩
  · rw [State.rxAbort_drv (hx.trans hp)]
    exact ⟨State.drvPkt_setDrv_same (h.hasSlot_of_rx hp) _, otherDrivers_setDrv s i _, rfl, rfl⟩
  · rw [State.rxAbort_app (hx.trans hp)]
    exact ⟨State.appPkt_setApp_same (h.hasSlot_of_rx hp) _, otherApps_setApp s g _, rfl, rfl⟩
  · rw [eq]
    exact ⟨rfl, rfl, rfl, rfl, rfl, rfl, rfl, rfl, rfl, rfl, rfl, rfl, rfl⟩

/-! ### START, FLAGS and INDEX (R221 to R223) -/

/-- An application packet's INDEX follows. -/
theorem State.rxTakeFlags_app {s : State} {b : Byte} (hb : isAppOwned b = true) :
    s.rxTakeFlags b = { s with rx := { s.rx with flags := recvFlags b, state := .awaitIndex } } :=
  if_pos hb

/-- The pool is exhausted. -/
theorem State.rxTakeFlags_empty {s : State} {b : Byte} (hb : isAppOwned b = false) (hq : s.freeq = []) :
    s.rxTakeFlags b = State.rxAbort { s with rx := { s.rx with flags := recvFlags b } } := by
  simp only [State.rxTakeFlags, hb, hq, dequeue_nil, Bool.false_eq_true, if_false]

/-- A driver packet is taken from FREEQ. -/
theorem State.rxTakeFlags_head {s : State} {b : Byte} {i : Nat} {rest : List Nat} (hb : isAppOwned b = false)
    (hq : s.freeq = i :: rest) :
    s.rxTakeFlags b = { s.setDrv i { s.drvPkt i with flags := recvFlags b, length := 0 } with
      freeq := rest, rx := { s.rx with flags := recvFlags b, pkt := some (.drv i), state := .awaitSize1 } } := by
  simp only [State.rxTakeFlags, hb, hq, dequeue_cons, Bool.false_eq_true, if_false]
  rfl

/-- Settles O34: RXE awaits an index, has a packet bound, or has aborted, as the byte and FREEQ say. -/
theorem rxStartAndFlags : Obligations.RxStartAndFlags := by
  intro s b h
  refine ⟨fun hst => State.rxStep_awaitStart hst b, fun hst => ⟨_, State.rxStep_awaitFlags hst b, ?_⟩⟩
  change if isAppOwned b = true then _ else _
  split
  · next howned => exact State.rxTakeFlags_app howned
  · next howned =>
    have hfree := Bool.of_not_eq_true howned
    split
    · next hq =>
      rw [State.rxTakeFlags_empty hfree hq]
      exact h.aborted_rxAbort rfl
    · next i rest hq =>
      have hi : i < s.nDrv := h.lt_of_free (by simp [hq])
      rw [State.rxTakeFlags_head hfree hq]
      exact ⟨rfl, rfl, State.drvPkt_setDrv_same hi _, otherDrivers_setDrv s i _, rfl, rfl, rfl, rfl, rfl, rfl, rfl,
        rfl, rfl, rfl, rfl, rfl, rfl, rfl⟩

/-- The handle is in range and armed (R223). -/
theorem State.rxTakeIndex_armed {s : State} {b : Byte} (hg : b.toNat < s.nApp) (ha : s.armed b.toNat = true) :
    s.rxTakeIndex b = s.rxBind (.app b.toNat) :=
  if_neg (by simp [hg, ha])

theorem State.rxTakeIndex_refused {s : State} {b : Byte} (h : ¬(b.toNat < s.nApp ∧ s.armed b.toNat = true)) :
    s.rxTakeIndex b = s.rxAbort :=
  if_pos ((not_and_or.1 h).imp Nat.le_of_not_lt Bool.of_not_eq_true)

/-- Settles O35: the slot's record is written by `rxBind`, or the frame is aborted with no packet bound. -/
theorem rxIndexBindsArmedSlots : Obligations.RxIndexBindsArmedSlots := by
  intro s b h hst
  refine ⟨_, State.rxStep_awaitIndex hst b, ?_⟩
  by_cases hok : b.toNat < s.nApp ∧ s.armed b.toNat = true
  · obtain ⟨hg, ha⟩ := hok
    rw [if_pos ⟨hg, State.armed_iff.1 ha⟩, State.rxTakeIndex_armed hg ha]
    exact ⟨rfl, State.appPkt_setApp_same hg _, otherApps_setApp s _ _, rfl, rfl, rfl, rfl, rfl, rfl, rfl, rfl,
      rfl, rfl, rfl, rfl, rfl, rfl, rfl⟩
  · rw [if_neg fun hslot => hok ⟨hslot.1, State.armed_iff.2 hslot.2⟩, State.rxTakeIndex_refused hok]
    exact h.aborted_rxAbort rfl

/-! ### SIZE (R224, R225, R230) -/

theorem setWidth_byte (b : Byte) : b.setWidth 16 = (0 : Byte) ++ b := BitVec.setWidth_eq_append (by decide)

/-- RXE's registers when the frame's size `n` is known (R225): without payload END comes next. -/
def RxEngine.sized (x : RxEngine) (n : Half) : RxEngine :=
  { x with size := n, rem := n, state := if n = 0 then .awaitEnd else .awaitDataEsc }

theorem State.rxSizeHigh_fits {s : State} {p : PktId} {b : Byte} {n : Half} (hn : n = b ++ lowByte s.rx.size)
    (h : n.toNat ≤ s.capOf p) : s.rxSizeHigh p b = { s with rx := s.rx.sized n } := by
  subst hn
  exact if_neg (Nat.not_lt.2 (by cases p <;> exact h))

/-- The size the two bytes give is above the capacity, or it is taken (R230). -/
theorem State.Located.rxSizeHigh_checked {s : State} (h : s.Located) (p : PktId) {b : Byte} {n : Half}
    (hn : n = b ++ lowByte s.rx.size) :
    if s.capOf p < n.toNat then Aborted s (s.rxSizeHigh p b) { s.rx with size := n }
    else s.rxSizeHigh p b = { s with rx := s.rx.sized n } := by
  split
  · next hover =>
    subst hn
    have refused : s.rxSizeHigh p b = State.rxAbort { s with rx := { s.rx with size := b ++ lowByte s.rx.size } } :=
      if_pos (by cases p <;> exact hover)
    exact refused ▸ h.aborted_rxAbort rfl
  · next hfits => exact State.rxSizeHigh_fits hn (Nat.le_of_not_lt hfits)

/-- Settles O36: the size is compared with `capOf`. -/
theorem rxSizeIsCheckedAgainstCapacity : Obligations.RxSizeIsCheckedAgainstCapacity := by
  intro s b h
  refine ⟨fun hst => ?_, fun p hst hp => ⟨_, _, State.rxStep_awaitSize2 hst hp b, rfl, ?_⟩⟩
  · rw [State.rxStep_awaitSize1 hst, State.rxSizeLow, setWidth_byte]
  · cases p with
    | drv i => exact h.rxSizeHigh_checked (b := b) (.drv i) rfl
    | app g => exact h.rxSizeHigh_checked (b := b) (.app g) rfl

/-! ### Payload bytes (R226, R227, R229) -/

/-- A payload byte at the end of an application packet, which the length then counts (R229). -/
def State.storeApp (s : State) (g : Nat) (b : Byte) : State :=
  { s.setApp g { s.appPkt g with length := (s.appPkt g).length + 1 } with
    mem := s.mem.put (s.hostAddr (s.appPkt g).buffer (s.appPkt g).length.toNat) b }

theorem State.rxStore_app_admitted {s : State} {g : Nat}
    (ha : s.admits (s.hostAddr (s.appPkt g).buffer (s.appPkt g).length.toNat) = true) (b : Byte) :
    s.rxStore (.app g) b = some { s.storeApp g b with rx := s.rx.stored } := by
  simp only [State.rxStore, State.rxWrite, State.lengthOf, State.memWrite, ha, if_true]
  rfl

theorem State.rxStore_app_refused {s : State} {g : Nat}
    (ha : s.admits (s.hostAddr (s.appPkt g).buffer (s.appPkt g).length.toNat) = false) (b : Byte) :
    s.rxStore (.app g) b = none := by
  simp only [State.rxStore, State.rxWrite, State.lengthOf, State.memWrite, ha, Bool.false_eq_true, if_false]

/-- Settles O37: the byte is stored by `storeDrv` or `storeApp`. -/
theorem rxStoresPayloadBytes : Obligations.RxStoresPayloadBytes := by
  intro s b p h hp
  refine ⟨fun hst hb => hb ▸ State.rxStep_escape hp hst, fun hst hadmits => ?_⟩
  have hslot := h.hasSlot_of_rx hp
  rw [State.rxStep_data hp hst]
  cases p with
  | drv i =>
    have record : (s.storeDrv i b).drvPkt i = _ := State.drvPkt_setDrv_same hslot _
    have flags := congrArg DrvPkt.flags record
    have length := congrArg DrvPkt.length record
    refine ⟨_, State.rxStore_drv hslot b, rfl, flags, length, rfl, rfl, rfl, rfl, rfl, rfl,
      ⟨rfl, rfl, rfl, rfl, rfl, rfl, rfl⟩, rfl, rfl, s.otherDrivers_storeDrv i b, fun k => ?_⟩
    exact (State.dbuf_storeDrv hslot b i k).trans (by simp)
  | app g =>
    have record : (s.storeApp g b).appPkt g = _ := State.appPkt_setApp_same hslot _
    have flags := congrArg AppPkt.flags record
    have length := congrArg AppPkt.length record
    have capacity := congrArg AppPkt.capacity record
    have buffer := congrArg AppPkt.buffer record
    exact ⟨_, State.rxStore_app_admitted (hadmits g rfl) b, rfl, flags, length, rfl, rfl, rfl, rfl, rfl, rfl,
      ⟨rfl, rfl, rfl, rfl, rfl, rfl, rfl⟩, rfl, otherApps_setApp s g _, capacity, buffer, s.memByte_put _ b⟩

/-! ### END (R228, R231) -/

theorem State.rxEnd_END (s : State) (p : PktId) :
    s.rxEnd p markEND = (s.rxComplete p).setRxState .awaitStart :=
  congrArg (State.setRxState · .awaitStart) (if_pos rfl)

theorem State.rxEnd_other {b : Byte} (hb : b ≠ markEND) (s : State) (p : PktId) : s.rxEnd p b = s.rxAbort :=
  congrArg (State.setRxState · .awaitStart) (if_neg hb)

/-- Settles O38: `rxComplete` writes the packet's record and RXQ. -/
theorem rxEndCompletesOrAborts : Obligations.RxEndCompletesOrAborts := by
  intro s b p h hst hp
  refine ⟨_, State.rxStep_awaitEnd hst hp b, ?_⟩
  change if b = markEND then _ else _
  split
  · next hb =>
    have done := completed_rxComplete (h.hasSlot_of_rx hp)
    rw [hb, State.rxEnd_END]
    cases p with
    | drv i =>
      exact ⟨rfl, rfl, rfl, rfl, rfl, rfl, rfl, ⟨rfl, rfl, rfl, rfl, rfl, rfl, rfl⟩, done, rfl⟩
    | app g =>
      exact ⟨rfl, rfl, rfl, rfl, rfl, rfl, rfl, ⟨rfl, rfl, rfl, rfl, rfl, rfl, rfl⟩, done, (List.append_nil _).symm⟩
  · next hb =>
    rw [State.rxEnd_other hb]
    exact h.aborted_rxAbort rfl

end Sys2Proof.Machine
end

section
/-! PROOFS. The bytes LINK has for RXE (60_exceptions.md R327, R362) and the deliveries (43_rx_fsm.md R235): what each
agent's turn does to them. -/

namespace Sys2Proof.Machine

/-! ### The bytes still to be consumed -/

/-- The byte presented, if any, and the bytes after it. -/
def State.unread (s : State) : List Byte := s.link.rxData.toList ++ s.link.incoming

theorem State.unread_linkPresent (s : State) : s.linkPresent.unread = s.unread := by
  unfold State.linkPresent
  split
  · next hd hq => simp [State.unread, hd, hq]
  · rfl

/-- TXE has no part in them (R328). -/
theorem State.unread_txTurn (s : State) : s.txTurn.unread = s.unread := by
  obtain eq | ⟨-, -, hstep⟩ := s.txTurn_cases
  · rw [eq]
  · obtain same | ⟨b, eq⟩ := State.txStep_link hstep
    · rw [State.unread, same, State.unread]
    · rw [State.unread, eq, State.unread]
      rfl

/-- A turn of RXE changes nothing, or takes the byte presented (R220). -/
theorem State.rxTurn_link (s : State) :
    s.rxTurn = s ∨ ∃ b, s.link.rxData = some b ∧ s.rxTurn.link = { s.link with rxData := none } := by
  obtain eq | ⟨b, hb, hstep⟩ := s.rxTurn_cases
  · exact .inl eq
  · exact .inr ⟨b, hb, (State.rxStep_leftByRx hstep).1⟩

theorem State.turn_unread {s t : State} {d : Draw} (ht : s.turn d = .next t) :
    t.unread = s.unread ∨
      (d = .rxe ∧ t.link.rxData = none ∧ ∃ b, s.link.rxData = some b ∧ b :: t.link.incoming = s.unread) := by
  cases d with
  | fg => exact .inl (by rw [State.unread, State.fgTurn_link ht, State.unread])
  | rxe =>
    cases ht
    obtain eq | ⟨b, hb, link⟩ := s.rxTurn_link
    · exact .inl (by rw [eq])
    · exact .inr ⟨rfl, by rw [link], b, hb, by rw [link, State.unread, hb]; rfl⟩
  | txe => cases ht; exact .inl s.unread_txTurn
  | linkByte => cases ht; exact .inl s.unread_linkPresent
  | linkReady r => cases ht; exact .inl rfl
  | reset => cases ht; exact .inl rfl

theorem State.rxTurn_presented {s : State} {b : Byte} (hb : s.link.rxData = some b) :
    s.rxTurn = (s.takeByte.rxStep b).getD s := by
  simp only [State.rxTurn, hb]

/-- Settles O33: a turn of RXE is `rxStep` on the byte presented where that is a step, and only RXE takes bytes. -/
theorem rxeStepsOnAPresentedByte : Obligations.RxeStepsOnAPresentedByte := by
  refine ⟨fun s t ht => ?_, fun s => ⟨fun hnone => ?_, fun b t hb hstep => ?_, fun b g hb hp hst hrefused => ?_⟩⟩
  · obtain ⟨o, ho⟩ := s.afterDraw_eq
    rw [step, ho] at ht
    exact State.turn_unread (s := { s with oracle := o }) ht
  · simp only [State.turn, State.rxTurn, hnone]
  · have hstep : s.takeByte.rxStep b = some t := hstep
    rw [State.turn, State.rxTurn_presented hb, hstep, Option.getD_some]
  · have hstep : s.takeByte.rxStep b = none :=
      (State.rxStep_data (s := s.takeByte) hp hst).trans (State.rxStore_app_refused (s := s.takeByte) hrefused b)
    rw [State.turn, State.rxTurn_presented hb, hstep, Option.getD_none]

/-! ### Deliveries -/

/-- The packet stands delivered: a driver packet in RXQ, an application slot DONE for reception (R231). -/
def State.Delivered (s : State) : PktId → Prop
  | .drv i => i ∈ s.rxq
  | .app g => (s.appPkt g).flags &&& 0x60 = 0x60

/-- Nothing is delivered in `t` that was not in `s`. -/
def State.DeliversNone (s t : State) : Prop := ∀ p, t.Delivered p → s.Delivered p

theorem State.DeliversNone.refl (s : State) : s.DeliversNone s := fun _ => id

theorem State.DeliversNone.ite {c : Prop} [Decidable c] {s t u : State} (ht : c → s.DeliversNone t)
    (hu : ¬c → s.DeliversNone u) : s.DeliversNone (if c then t else u) := by
  split
  · next h => exact ht h
  · next h => exact hu h

theorem State.deliversNone_of {s t : State} (happ : t.app = s.app) (hrxq : t.rxq ⊆ s.rxq) : s.DeliversNone t
  | .drv _, hi => hrxq hi
  | .app g, hg => by rwa [State.Delivered, State.appPkt_congr happ] at hg

/-- A record that is not DONE for reception delivers nothing. -/
theorem State.deliversNone_setApp (s : State) (g : Nat) {a : AppPkt}
    (ha : a.flags &&& 0x60 = 0x60 → (s.appPkt g).flags &&& 0x60 = 0x60) : s.DeliversNone (s.setApp g a)
  | .drv _, hi => hi
  | .app k, hk => by
    by_cases hkg : k = g
    · subst hkg
      by_cases hslot : k < s.nApp
      · rw [State.Delivered, State.appPkt_setApp_same hslot] at hk
        exact ha hk
      · have outside : s.app.set k a = s.app := List.set_eq_of_length_le (Nat.le_of_not_lt hslot)
        rwa [State.Delivered, State.appPkt_congr (s := s) outside] at hk
    · rwa [State.Delivered, State.appPkt_setApp_other s hkg] at hk

theorem queueFlags_undelivered : ∀ b : Byte, queueFlags b &&& 0x60 ≠ 0x60 := by decide

theorem releaseFlags_undelivered : ∀ f : Byte, releaseFlags f &&& 0x60 ≠ 0x60 := by decide

theorem completeFlags_sent : ∀ f : Byte, f &&& 0x70 = 0x10 → completeFlags f &&& 0x60 ≠ 0x60 := by decide

theorem undelivered_of_receiving : ∀ f : Byte, f &&& 0x70 = 0x50 → f &&& 0x60 ≠ 0x60 := by decide

/-! ### The foreground delivers nothing -/

theorem State.deliversNone_bldStore (s : State) (i : Nat) (b : Byte) : s.DeliversNone (s.bldStore i b) := by
  unfold State.bldStore
  extract_lets p n s1 bld s2
  have closed : s.DeliversNone s2 := .ite (fun _ => .refl s) fun _ => .refl s
  exact closed

theorem State.deliversNone_append (s : State) (b : Byte) : s.DeliversNone (s.append b) := by
  unfold State.append
  rcases s.bldLazy_cases with ⟨i, -, eq⟩ | ⟨i, rest, -, -, eq⟩ | ⟨-, -, eq⟩ <;> rw [eq]
  · exact s.deliversNone_bldStore i b
  · exact State.deliversNone_bldStore (State.bldOpen { s with freeq := rest } i _) i b
  · exact .refl s

theorem State.deliversNone_bldFlush (s : State) : s.DeliversNone s.bldFlush :=
  State.deliversNone_of s.bldFlush_app (by rw [State.bldFlush_rxq]; exact List.Subset.refl _)

theorem execStartOutgoing_deliversNone {s t : State} {usage : Byte} (ht : execStartOutgoing usage s = .next t) :
    s.DeliversNone t := by
  unfold execStartOutgoing at ht
  extract_lets s1 bld s2 flags at ht
  split at ht <;> cases ht
  · exact s.deliversNone_bldFlush
  · exact s.deliversNone_bldFlush

/-- RX_COLLECT takes a packet out of RXQ (R290). -/
theorem execRxCollect_deliversNone {s t : State} (ht : execRxCollect s = .next t) : s.DeliversNone t := by
  unfold execRxCollect at ht
  split at ht <;> cases ht
  · exact .refl s
  · next i rest hq => exact State.deliversNone_of rfl (dequeue_eq_some.1 hq ▸ List.subset_cons_self i rest)

theorem exec_deliversNone {c : Instr} {s t : State} (ht : exec c s = .next t) : s.DeliversNone t := by
  cases c with
  | queueTx a flags =>
    cases ht
    exact .ite (fun _ => .refl s) fun _ => .ite (fun _ => .refl s) fun _ =>
      s.deliversNone_setApp _ fun hd => absurd hd (queueFlags_undelivered flags)
  | armRx a =>
    cases ht
    exact .ite (fun _ => .refl s) fun _ => .ite (fun _ => .refl s) fun _ =>
      s.deliversNone_setApp _ fun hd => absurd hd (by decide : armedFlags &&& 0x60 ≠ 0x60)
  | release a =>
    cases ht
    exact .ite (fun _ => .refl s) fun _ => .ite (fun _ => .refl s) fun _ =>
      s.deliversNone_setApp _ fun hd => absurd hd (releaseFlags_undelivered _)
  | startOutgoing usage => exact execStartOutgoing_deliversNone ht
  | appendByte b => cases ht; exact s.deliversNone_append b
  | appendInfer b =>
    cases ht
    obtain ⟨carry, eq⟩ := s.infer_eq b
    have appended := (s.infer b).deliversNone_append b
    rw [eq] at appended ⊢
    exact appended
  | flush => cases ht; exact s.deliversNone_bldFlush
  | rxCollect => exact execRxCollect_deliversNone ht
  | isTxDone a => cases ht; exact .ite (fun _ => .refl s) fun _ => .refl s
  | isRxDone a => cases ht; exact .ite (fun _ => .refl s) fun _ => .refl s
  | rxReadByte a => cases ht; exact .ite (fun _ => .ite (fun _ => .refl s) fun _ => .refl s) fun _ => .refl s
  | rxFree a => cases ht; exact .ite (fun _ => .refl s) fun _ => .refl s
  | nop => cases ht; exact .refl s
  | setActive bit => cases ht; exact .refl s
  | queryActive => cases ht; exact .refl s

theorem State.fgTurn_deliversNone {s t : State} (ht : s.fgTurn = .next t) : s.DeliversNone t := by
  obtain ⟨w, f, -, hrun⟩ | ⟨a, b, rest, -, -, rfl⟩ | ⟨f, r, o, rfl⟩ := State.fgTurn_cases ht
  · unfold State.runCommand at hrun
    split at hrun
    · exact exec_deliversNone (s := { s with fg := f }) hrun
    · cases hrun; exact .refl s
  · obtain ⟨m, o, eq⟩ := State.hostWrite_eq { s with fg := { s.fg with ops := rest } } a b
    rw [eq]
    exact .refl s
  · exact .refl s

/-! ### Nor does TXE -/

/-- A step of TXE leaves the records alone until END (R191 to R199). -/
theorem State.txStep_records {s t : State} (ht : s.txStep = some t) :
    t.app = s.app ∧ t.rxq = s.rxq ∨ ∃ p, s.tx.pkt = some p ∧ t = s.txEnd p := by
  unfold State.txStep at ht
  cases hst : s.tx.state <;> simp only [hst, Option.some.injEq, Option.map_eq_some_iff, Option.bind_eq_some_iff] at ht
  case idle =>
    subst ht
    unfold State.txIdle
    split <;> exact .inl ⟨rfl, rfl⟩
  case sentFlags =>
    obtain ⟨p, -, ht⟩ := ht
    unfold State.txIndexOrSize at ht
    split at ht
    · obtain ⟨x, -, rfl⟩ := Option.map_eq_some_iff.1 ht
      exact .inl ⟨rfl, rfl⟩
    · cases ht; exact .inl ⟨rfl, rfl⟩
  case sentSize2 | sentData =>
    obtain ⟨p, -, ht⟩ := ht
    obtain ⟨b, -, ⟨-, rfl⟩ | ⟨-, rfl⟩⟩ := State.txData_eq_some ht <;> exact .inl ⟨rfl, rfl⟩
  case sentAllData =>
    obtain ⟨p, hp, rfl⟩ := ht
    exact .inr ⟨p, hp, rfl⟩
  case sentStart | sentIndex | sentSize1 | sentEsc =>
    obtain ⟨p, -, rfl⟩ := ht
    exact .inl ⟨rfl, rfl⟩

/-- The packet TXE has sent is not one for reception (R266). -/
theorem State.Ok.deliversNone_txTurn {s : State} (h : s.Ok) : s.DeliversNone s.txTurn := by
  obtain eq | ⟨-, -, hstep⟩ := s.txTurn_cases
  · rw [eq]; exact .refl s
  · obtain ⟨happ, hrxq⟩ | ⟨p, hp, eq⟩ := State.txStep_records hstep
    · exact State.deliversNone_of happ (by rw [hrxq]; exact List.Subset.refl _)
    · rw [eq]
      cases p with
      | drv i => exact .refl s
      | app g => exact s.deliversNone_setApp g fun hd => absurd hd (completeFlags_sent _ (h.sending _ hp).2)

/-! ### RXE delivers on END -/

theorem State.deliversNone_rxAbort (s : State) : s.DeliversNone s.rxAbort := by
  rcases hp : s.rx.pkt with _ | ⟨i⟩ | ⟨g⟩
  · rw [State.rxAbort_none hp]; exact .refl s
  · rw [State.rxAbort_drv hp]; exact .refl s
  · rw [State.rxAbort_app hp]
    exact s.deliversNone_setApp g fun hd => absurd hd (by decide : armedFlags &&& 0x60 ≠ 0x60)

theorem State.deliversNone_rxTakeFlags (s : State) (b : Byte) : s.DeliversNone (s.rxTakeFlags b) := by
  cases hb : isAppOwned b with
  | true => rw [State.rxTakeFlags_app hb]; exact .refl s
  | false =>
    cases hq : s.freeq with
    | nil =>
      rw [State.rxTakeFlags_empty hb hq]
      exact State.deliversNone_rxAbort { s with rx := { s.rx with flags := recvFlags b } }
    | cons i rest => rw [State.rxTakeFlags_head hb hq]; exact .refl s

/-- The flags RXE has recorded are those of a packet being received (R222). -/
theorem State.deliversNone_rxTakeIndex {s : State} (hflags : s.rx.flags &&& 0x70 = 0x50) (b : Byte) :
    s.DeliversNone (s.rxTakeIndex b) :=
  .ite (fun _ => s.deliversNone_rxAbort) fun _ =>
    s.deliversNone_setApp _ fun hd => absurd hd (undelivered_of_receiving _ hflags)

theorem State.deliversNone_rxSizeHigh (s : State) (p : PktId) (b : Byte) : s.DeliversNone (s.rxSizeHigh p b) :=
  .ite (fun _ => State.deliversNone_rxAbort { s with rx := { s.rx with size := b ++ lowByte s.rx.size } }) fun _ =>
    .refl s

/-- A payload byte leaves the flags as they are (R229). -/
theorem State.rxStore_deliversNone {s t : State} {p : PktId} {b : Byte} (ht : s.rxStore p b = some t) :
    s.DeliversNone t := by
  obtain ⟨s1, hw, rfl⟩ := State.rxStore_eq_some ht
  cases p with
  | drv i => cases hw; exact .refl s
  | app g =>
    obtain ⟨-, rfl⟩ := State.memWrite_eq_some.1 hw
    exact s.deliversNone_setApp g id

/-- END delivers the packet received, and no other. -/
theorem State.delivered_rxEnd {s : State} {p q : PktId} (hq : (s.rxEnd p markEND).Delivered q) :
    s.Delivered q ∨ q = p := by
  rw [State.rxEnd_END] at hq
  cases p with
  | drv i =>
    cases q with
    | drv j => exact (List.mem_append.1 hq).imp id fun hj => congrArg _ (List.mem_singleton.1 hj)
    | app g => exact .inl hq
  | app g =>
    cases q with
    | drv j => exact .inl hq
    | app k =>
      by_cases hk : k = g
      · exact .inr (congrArg _ hk)
      · have same := congrArg (fun a : AppPkt => a.flags &&& 0x60)
          (s.appPkt_setApp_other hk { s.appPkt g with flags := completeFlags (s.appPkt g).flags })
        exact .inl (same.symm.trans hq)

theorem State.Ok.rxStep_delivers {s t : State} {b : Byte} {q : PktId} (h : s.Ok) (ht : s.rxStep b = some t)
    (hq : t.Delivered q) (hnew : ¬s.Delivered q) : s.rx.state = .awaitEnd ∧ b = markEND ∧ s.rx.pkt = some q := by
  have none_new : ¬s.DeliversNone t := fun hnone => hnew (hnone q hq)
  unfold State.rxStep at ht
  cases hst : s.rx.state <;> simp only [hst, Option.some.injEq, Option.map_eq_some_iff, Option.bind_eq_some_iff] at ht
  case awaitStart => exact absurd (ht ▸ .ite (fun _ => .refl s) fun _ => .refl s) none_new
  case awaitFlags => exact absurd (ht ▸ s.deliversNone_rxTakeFlags b) none_new
  case awaitIndex => exact absurd (ht ▸ State.deliversNone_rxTakeIndex (h.awaitIndex hst).2 b) none_new
  case awaitSize1 => exact absurd (ht ▸ .refl s) none_new
  case awaitSize2 =>
    obtain ⟨p, -, rfl⟩ := ht
    exact absurd (s.deliversNone_rxSizeHigh p b) none_new
  case awaitDataEsc =>
    obtain ⟨p, -, ht⟩ := ht
    unfold State.rxDataEsc at ht
    split at ht
    · cases ht; exact absurd (.refl s) none_new
    · exact absurd (State.rxStore_deliversNone ht) none_new
  case awaitData =>
    obtain ⟨p, -, ht⟩ := ht
    exact absurd (State.rxStore_deliversNone ht) none_new
  case awaitEnd =>
    obtain ⟨p, hp, rfl⟩ := ht
    by_cases hb : b = markEND
    · subst hb
      obtain old | rfl := State.delivered_rxEnd hq
      · exact absurd old hnew
      · exact ⟨rfl, rfl, hp⟩
    · rw [State.rxEnd_other hb] at none_new
      exact absurd s.deliversNone_rxAbort none_new

/-! ### Steps -/

/-- Only a turn of RXE delivers a packet: the one bound, when END comes in AWAIT_END (R231, R235). -/
theorem State.Ok.turn_delivers {s t : State} {d : Draw} {q : PktId} (h : s.Ok) (ht : s.turn d = .next t)
    (hd : d ≠ .reset) (hq : t.Delivered q) (hnew : ¬s.Delivered q) :
    d = .rxe ∧ s.rx.state = .awaitEnd ∧ s.link.rxData = some markEND ∧ s.rx.pkt = some q := by
  have none_new : ¬s.DeliversNone t := fun hnone => hnew (hnone q hq)
  cases d with
  | fg => exact absurd (State.fgTurn_deliversNone ht) none_new
  | rxe =>
    cases ht
    obtain eq | ⟨b, hb, hstep⟩ := s.rxTurn_cases
    · rw [eq] at none_new
      exact absurd (.refl s) none_new
    · obtain ⟨hst, rfl, hp⟩ := h.takeByte.rxStep_delivers hstep hq hnew
      exact ⟨rfl, hst, hb, hp⟩
  | txe => cases ht; exact absurd h.deliversNone_txTurn none_new
  | linkByte =>
    cases ht
    unfold State.linkPresent at none_new
    split at none_new <;> exact absurd (.refl s) none_new
  | linkReady r => cases ht; exact absurd (.refl s) none_new
  | reset => exact absurd rfl hd

/-- At AWAIT_END the packet bound holds as many bytes as its frame declared (R229). -/
theorem State.Ok.lengthOf_eq_size {s : State} {p : PktId} (h : s.Ok) (hp : s.rx.pkt = some p)
    (hst : s.rx.state = .awaitEnd) : s.lengthOf p = s.rx.size := by
  have hphase := (h.receiving p hp).1
  simp only [State.rxPhase, hst, Bool.and_eq_true, decide_eq_true_eq] at hphase
  exact hphase.2

/-- Settles O39: the packet delivered is the one bound at AWAIT_END. -/
theorem noPartialDelivery : Obligations.NoPartialDelivery := by
  intro s t hinv ht hd
  have h := (State.inv_iff.1 hinv).afterDraw
  obtain ⟨o, ho⟩ := s.afterDraw_eq
  rw [ho] at h
  rw [step, ho] at ht
  refine ⟨fun i hq hnew => ?_, fun g _ hq hnew => ?_⟩
  · obtain ⟨hrxe, hst, hb, hp⟩ := h.turn_delivers (q := .drv i) ht hd hq hnew
    exact ⟨hrxe, hst, hb, hp, h.lengthOf_eq_size hp hst⟩
  · obtain ⟨hrxe, hst, hb, hp⟩ := h.turn_delivers (q := .app g) ht hd hq hnew
    exact ⟨hrxe, hst, hb, hp, h.lengthOf_eq_size hp hst⟩

end Sys2Proof.Machine
end

section
/-! PROOFS. The receiver's half of the round-trip law (43_rx_fsm.md R237): RXE's steps on a frame bind the packet, take
the size, store the payload byte by byte and complete the packet on END. One account, `State.Received`, is kept through
all of them, for driver and application packets alike. -/

namespace Sys2Proof.Machine

/-! ### Steps in a row -/

theorem State.rxBytes_cons {s t : State} {b : Byte} (h : s.rxStep b = some t) (w : List Byte) :
    s.rxBytes (b :: w) = t.rxBytes w := by
  simp only [State.rxBytes, h]

theorem State.rxBytes_append {s t : State} {v : List Byte} (h : s.rxBytes v = some t) (w : List Byte) :
    s.rxBytes (v ++ w) = t.rxBytes w := by
  induction v generalizing s with
  | nil =>
    cases h
    rfl
  | cons b v ih =>
    cases hstep : s.rxStep b with
    | none => simp [State.rxBytes, hstep] at h
    | some u =>
      rw [State.rxBytes_cons hstep] at h
      rw [List.cons_append, State.rxBytes_cons hstep]
      exact ih h

theorem State.Ok.rxBytes {s t : State} {w : List Byte} (h : s.Ok) (ht : s.rxBytes w = some t) : t.Ok := by
  induction w generalizing s with
  | nil =>
    cases ht
    exact h
  | cons b w ih =>
    cases hstep : s.rxStep b with
    | none => simp [State.rxBytes, hstep] at ht
    | some u =>
      rw [State.rxBytes_cons hstep] at ht
      exact ih (h.rxStep hstep) ht

/-! ### Where payload bytes lie -/

/-- Where payload byte `k` of `p` lies: an offset in the driver buffer (R70), or a host address (R75). -/
def State.cell (s : State) (p : PktId) (k : Nat) : Nat :=
  match p with
  | .drv _ => k
  | .app g => s.hostAddr (s.appPkt g).buffer k

/-- The byte there. -/
def State.cellByte (s : State) (p : PktId) (a : Nat) : Byte :=
  match p with
  | .drv i => s.dbuf i a
  | .app _ => s.memByte a

/-- The first `n` payload bytes of `p` can be stored: host memory admits their addresses (R74), and no two of them lie
in the same place. -/
structure State.Room (s : State) (p : PktId) (n : Nat) : Prop where
  admitted : ∀ k < n, ∀ g, p = .app g → s.admits (s.hostAddr (s.appPkt g).buffer k) = true
  distinct : ∀ j k, j < k → k < n → s.cell p j ≠ s.cell p k

theorem State.room_drv (s : State) (i n : Nat) : s.Room (.drv i) n :=
  ⟨fun _ _ _ hg => (nomatch hg), fun _ _ hjk _ => hjk.ne⟩

/-- A buffer no longer than the address space does not wrap onto itself (R75). -/
theorem State.hostAddr_ne (s : State) (buffer : Word) {j k : Nat} (hjk : j < k) (hk : k < 2 ^ s.cfg.addrW) :
    s.hostAddr buffer j ≠ s.hostAddr buffer k := fun e => by
  have := Nat.ModEq.add_left_cancel' (buffer.toNat) (show buffer.toNat + j ≡ buffer.toNat + k [MOD _] from e)
  rw [Nat.ModEq, Nat.mod_eq_of_lt (hjk.trans hk), Nat.mod_eq_of_lt hk] at this
  exact hjk.ne this

theorem State.room_app {s : State} {g n : Nat} (hn : n ≤ 2 ^ s.cfg.addrW)
    (ha : ∀ k < n, s.admits (s.hostAddr (s.appPkt g).buffer k) = true) : s.Room (.app g) n :=
  ⟨fun k hk _ e => by cases e; exact ha k hk, fun _ _ hjk hk => s.hostAddr_ne _ hjk (hk.trans_le hn)⟩

/-! ### The account of a packet being received -/

/-- From `s` to `t` TXE, FREEQ and every packet but `p` are as before, and so is host memory where `p` is a driver
packet. -/
structure State.OnlyPacket (s t : State) (p : PktId) : Prop where
  cfg     : t.cfg = s.cfg
  tx      : t.tx = s.tx
  txq     : t.txq = s.txq
  freeq   : t.freeq = s.freeq
  packets : match p with
    | .drv i => t.mem = s.mem ∧ t.app = s.app ∧ OtherDrivers s t [i]
    | .app g => t.drv = s.drv ∧ OtherApps s t g ∧ (t.appPkt g).capacity = (s.appPkt g).capacity ∧
        (t.appPkt g).buffer = (s.appPkt g).buffer

theorem State.OnlyPacket.trans {s t u : State} {p : PktId} (h : s.OnlyPacket t p) (h' : t.OnlyPacket u p) :
    s.OnlyPacket u p := by
  refine ⟨h'.cfg.trans h.cfg, h'.tx.trans h.tx, h'.txq.trans h.txq, h'.freeq.trans h.freeq, ?_⟩
  cases p with
  | drv i =>
    obtain ⟨mem, app, others⟩ := h.packets
    obtain ⟨mem', app', others'⟩ := h'.packets
    exact ⟨mem'.trans mem, app'.trans app, others.trans others'⟩
  | app g =>
    obtain ⟨drv, ⟨napp, others⟩, capacity, buffer⟩ := h.packets
    obtain ⟨drv', ⟨napp', others'⟩, capacity', buffer'⟩ := h'.packets
    exact ⟨drv'.trans drv, ⟨napp'.trans napp, fun k hk => (others' k hk).trans (others k hk)⟩,
      capacity'.trans capacity, buffer'.trans buffer⟩

/-- RXE's registers and RXQ are no part of it. -/
theorem State.onlyPacket_withRx (s : State) (p : PktId) (x : RxEngine) : s.OnlyPacket { s with rx := x } p := by
  refine ⟨rfl, rfl, rfl, rfl, ?_⟩
  cases p with
  | drv i => exact ⟨rfl, rfl, OtherDrivers.refl s [i]⟩
  | app g => exact ⟨rfl, ⟨rfl, fun _ _ => rfl⟩, rfl, rfl⟩

theorem State.OnlyPacket.hostAddr_eq {s t : State} {g : Nat} (h : s.OnlyPacket t (.app g)) (k : Nat) :
    t.hostAddr (t.appPkt g).buffer k = s.hostAddr (s.appPkt g).buffer k := by
  obtain ⟨-, -, -, buffer⟩ := h.packets
  rw [State.hostAddr, buffer, h.cfg, State.hostAddr]

theorem State.OnlyPacket.cell_eq {s t : State} {p : PktId} (h : s.OnlyPacket t p) (k : Nat) :
    t.cell p k = s.cell p k := by
  cases p with
  | drv i => rfl
  | app g => exact h.hostAddr_eq k

theorem State.OnlyPacket.admits_eq {s t : State} {p : PktId} (h : s.OnlyPacket t p) (a : Nat) :
    t.admits a = s.admits a := by
  simp only [State.admits, State.inWindow, h.cfg]

theorem State.OnlyPacket.capOf_eq {s t : State} {p : PktId} (h : s.OnlyPacket t p) : t.capOf p = s.capOf p := by
  cases p with
  | drv i => exact congrArg Launch.drvCap h.cfg
  | app g =>
    obtain ⟨-, -, capacity, -⟩ := h.packets
    exact congrArg BitVec.toNat capacity

/-- In `t` the packet `p` has the flags `f` and the payload `d`; what else packets and their buffers hold, host memory
included, is as in `s`. -/
structure State.Received (s : State) (p : PktId) (f : Byte) (d : List Byte) (t : State) : Prop where
  only   : s.OnlyPacket t p
  flags  : t.flagsOf p = f
  length : (t.lengthOf p).toNat = d.length
  bytes  : ∀ k b, d[k]? = some b → t.cellByte p (s.cell p k) = b
  rest   : ∀ a, (∀ k < d.length, a ≠ s.cell p k) → t.cellByte p a = s.cellByte p a

theorem State.Received.withRx {s t : State} {p : PktId} {f : Byte} {d : List Byte} (h : s.Received p f d t)
    (x : RxEngine) : s.Received p f d { t with rx := x } := by
  refine ⟨h.only.trans (t.onlyPacket_withRx p x), ?_, ?_, ?_, ?_⟩
  · cases p <;> exact h.flags
  · rw [State.lengthOf_withRx]; exact h.length
  · cases p <;> exact h.bytes
  · cases p <;> exact h.rest

/-- A payload byte stored at the end of the packet. -/
theorem State.Received.snoc {s t u : State} {p : PktId} {f b : Byte} {d : List Byte} {n : Nat}
    (h : s.Received p f d t) (room : s.Room p n) (hn : d.length < n) (only : t.OnlyPacket u p)
    (flags : u.flagsOf p = t.flagsOf p) (length : (u.lengthOf p).toNat = (t.lengthOf p).toNat + 1)
    (byte : ∀ a, u.cellByte p a = if a = t.cell p (t.lengthOf p).toNat then b else t.cellByte p a) :
    s.Received p f (d ++ [b]) u := by
  rw [h.length, h.only.cell_eq] at byte
  refine ⟨h.only.trans only, flags.trans h.flags, by rw [length, h.length, List.length_append]; rfl,
    fun k c hk => ?_, fun a ha => ?_⟩
  · obtain hlt | rfl | hgt := Nat.lt_trichotomy k d.length
    · rw [byte, if_neg (room.distinct k _ hlt hn)]
      exact h.bytes k c (by rwa [List.getElem?_append_left hlt] at hk)
    · rw [byte, if_pos rfl]
      simpa using hk
    · simp [List.getElem?_append_right hgt.le, Nat.sub_ne_zero_of_lt hgt] at hk
  · rw [List.length_append, List.length_singleton] at ha
    rw [byte, if_neg (ha _ (Nat.lt_succ_self _))]
    exact h.rest a fun k hk => ha k (hk.trans (Nat.lt_succ_self _))

/-! ### The payload (R226, R227, R229) -/

theorem State.Ok.hasSlot_of_rx {s : State} {p : PktId} (h : s.Ok) (hp : s.rx.pkt = some p) : s.HasSlot p :=
  h.located.hasSlot_of_rx hp

/-- A step of RXE that stores a payload byte keeps the account. -/
theorem State.Received.rxStep_data {s t : State} {p : PktId} {f b : Byte} {d : List Byte} {n : Nat}
    (h : s.Received p f d t) (ok : t.Ok) (room : s.Room p n) (hn : d.length < n) (hp : t.rx.pkt = some p)
    (hst : t.rx.state = .awaitData ∨ t.rx.state = .awaitDataEsc ∧ b ≠ markESCAPE) :
    ∃ u, t.rxStep b = some u ∧ s.Received p f (d ++ [b]) u ∧ u.rx = t.rx.stored ∧ u.rxq = t.rxq := by
  have filling := ok.filling hp (hst.symm.imp And.left id)
  have hlen : (t.lengthOf p + 1).toNat = (t.lengthOf p).toNat + 1 :=
    toNat_add_one_of_lt (cap := t.rx.size.toNat)
      (by have := filling.count; have := filling.more; omega) (Nat.le_of_lt_succ t.rx.size.isLt)
  obtain ⟨-, hstore⟩ := rxStoresPayloadBytes t b p ok.located hp
  obtain ⟨u, hstep, rx, flags, length, freeq, txq, rxq, tx, -, -, outside, stored⟩ := hstore hst fun g hg => by
    subst hg
    have hadmits := room.admitted _ hn g rfl
    rw [← h.only.hostAddr_eq, ← h.only.admits_eq, ← h.length] at hadmits
    exact hadmits
  obtain ⟨-, -, -, -, cfg, -, -⟩ := outside
  refine ⟨u, hstep, ?_, rx, rxq⟩
  cases p with
  | drv i =>
    obtain ⟨mem, app, others, byte⟩ := stored
    exact h.snoc room hn ⟨cfg, tx, txq, freeq, mem, app, others⟩ flags (length ▸ hlen) byte
  | app g =>
    obtain ⟨drv, others, capacity, buffer, byte⟩ := stored
    exact h.snoc room hn ⟨cfg, tx, txq, freeq, drv, others, capacity, buffer⟩ flags (length ▸ hlen) byte

/-- RXE is filling `p`, and the payload bytes `d` are still to come. -/
structure State.Expects (s : State) (p : PktId) (d : List Byte) : Prop where
  ok    : s.Ok
  pkt   : s.rx.pkt = some p
  state : s.rx.state = if d = [] then .awaitEnd else .awaitDataEsc
  count : s.rx.rem.toNat = d.length

theorem State.Expects.stored {s t : State} {p : PktId} {b : Byte} {e : List Byte} (h : s.Expects p (b :: e))
    (ok : t.Ok) (rx : t.rx = s.rx.stored) : t.Expects p e := by
  have hcount : s.rx.rem.toNat = e.length + 1 := h.count
  have hrem : (s.rx.rem - 1).toNat = e.length := by
    rw [BitVec.toNat_sub_of_le (BitVec.le_def.2 (show (1 : Half).toNat ≤ _ from hcount ▸ Nat.le_add_left 1 _)), hcount]
    rfl
  have hdone : s.rx.rem - 1 = 0 ↔ e = [] := by
    rw [← List.length_eq_zero_iff, ← hrem, ← BitVec.toNat_inj]
    rfl
  refine ⟨ok, by rw [rx]; exact h.pkt, ?_, by rw [rx]; exact hrem⟩
  rw [rx]
  simp only [RxEngine.stored, hdone]

/-- The next payload byte comes, as it is or behind ESCAPE (R115). -/
theorem State.Expects.rxBytes_byte {r s : State} {p : PktId} {f b : Byte} {d e : List Byte} {n : Nat}
    (h : s.Expects p (b :: e)) (received : r.Received p f d s) (room : r.Room p n) (hn : d.length < n) :
    ∃ t, s.rxBytes (escaped [b]) = some t ∧ t.Expects p e ∧ r.Received p f (d ++ [b]) t ∧ t.rxq = s.rxq := by
  have hst : s.rx.state = .awaitDataEsc := h.state
  cases hr : isReserved b with
  | true =>
    have hescape := State.rxStep_escape h.pkt hst
    obtain ⟨t, hstep, received, rx, rxq⟩ := (received.withRx { s.rx with state := .awaitData }).rxStep_data (b := b)
      (h.ok.rxStep hescape) room hn h.pkt (.inl rfl)
    have bytes := (State.rxBytes_cons hescape [b]).trans (State.rxBytes_cons hstep [])
    rw [escaped_marker hr]
    exact ⟨t, bytes, h.stored (h.ok.rxBytes bytes) rx, received, rxq⟩
  | false =>
    have hb : b ≠ markESCAPE := fun e => by subst e; exact absurd hr (by decide)
    obtain ⟨t, hstep, received, rx, rxq⟩ := received.rxStep_data h.ok room hn h.pkt (.inr ⟨hst, hb⟩)
    rw [escaped_plain hr]
    exact ⟨t, State.rxBytes_cons hstep [], h.stored (h.ok.rxStep hstep) rx, received, rxq⟩

/-- The whole payload comes. -/
theorem State.Expects.rxBytes_escaped {r s : State} {p : PktId} {f : Byte} {d e : List Byte} {n : Nat}
    (h : s.Expects p e) (received : r.Received p f d s) (room : r.Room p n) (hn : d.length + e.length ≤ n) :
    ∃ t, s.rxBytes (escaped e) = some t ∧ t.Expects p [] ∧ r.Received p f (d ++ e) t ∧ t.rxq = s.rxq := by
  induction e generalizing s d with
  | nil => exact ⟨s, rfl, h, by rwa [List.append_nil], rfl⟩
  | cons b e ih =>
    rw [List.length_cons] at hn
    obtain ⟨t, bytes, expects, received, rxq⟩ := h.rxBytes_byte received room (by omega)
    obtain ⟨u, bytes', done, received, rxq'⟩ := ih expects received
      (by rw [List.length_append, List.length_singleton]; omega)
    rw [List.append_assoc] at received
    exact ⟨u, by rw [escaped_cons, State.rxBytes_append bytes, bytes'], done, received, rxq'.trans rxq⟩

/-! ### END (R228, R231) -/

/-- END completes the packet. -/
theorem State.Received.rxEnd {s t : State} {p : PktId} {f : Byte} {d : List Byte} (h : s.Received p f d t)
    (hslot : t.HasSlot p) : s.Received p (completeFlags f) d (t.rxEnd p markEND) := by
  have memories := t.memories_rxEnd p markEND
  have completed := completed_rxComplete hslot
  rw [State.rxEnd_END] at memories ⊢
  have flags := (State.flagsOf_setFlags hslot (completeFlags (t.flagsOf p))).trans (congrArg completeFlags h.flags)
  cases p with
  | drv i =>
    obtain ⟨record, others, app⟩ := completed
    refine ⟨h.only.trans ⟨rfl, rfl, rfl, rfl, rfl, app, others⟩, flags, ?_, fun k b hk => ?_, fun a ha => ?_⟩
    · exact (congrArg (fun x : DrvPkt => x.length.toNat) record).trans h.length
    · exact (State.dbuf_eq memories i _).trans (h.bytes k b hk)
    · exact (State.dbuf_eq memories i a).trans (h.rest a ha)
  | app g =>
    obtain ⟨record, others, drv⟩ := completed
    have capacity := congrArg AppPkt.capacity record
    have buffer := congrArg AppPkt.buffer record
    refine ⟨h.only.trans ⟨rfl, rfl, rfl, rfl, drv, others, capacity, buffer⟩, flags, ?_, h.bytes, h.rest⟩
    exact (congrArg (fun x : AppPkt => x.length.toNat) record).trans h.length

theorem State.rxq_rxEnd (s : State) (p : PktId) : (s.rxEnd p markEND).rxq = s.rxq ++ p.drvSlot.toList := by
  rw [State.rxEnd_END]
  cases p with
  | drv i => rfl
  | app g => exact (List.append_nil _).symm

/-! ### START to SIZE (R221 to R225) -/

theorem highByte_append_lowByte (n : Half) : highByte n ++ lowByte n = n :=
  (BitVec.extractLsb'_append_extractLsb'_eq_extractLsb' (x := n) rfl).trans BitVec.extractLsb'_eq_self

/-- The low byte is the low byte of what the first SIZE byte is stored as (R224). -/
theorem lowByte_setWidth (b : Byte) : lowByte (b.setWidth 16) = b := by
  apply BitVec.eq_of_getLsbD_eq
  intro i hi
  have hwide : i < 16 := by omega
  simp [lowByte, hi, hwide]

/-- The two bytes of a size that fits (R225). -/
theorem State.rxBytes_size {s : State} {p : PktId} {n : Half} (hp : s.rx.pkt = some p)
    (hst : s.rx.state = .awaitSize1) (hn : n.toNat ≤ s.capOf p) :
    s.rxBytes [lowByte n, highByte n] = some { s with rx := s.rx.sized n } := by
  have size : n = highByte n ++ lowByte (s.rxSizeLow (lowByte n)).rx.size := by
    rw [State.rxSizeLow, lowByte_setWidth, highByte_append_lowByte]
  have high := State.rxStep_awaitSize2 (s := s.rxSizeLow (lowByte n)) (p := p) rfl hp (highByte n)
  rw [State.rxSizeHigh_fits size (by cases p <;> exact hn)] at high
  rw [State.rxBytes_cons (State.rxStep_awaitSize1 hst _), State.rxBytes_cons high]
  rfl

/-- The packet RXE binds is empty and has the flags recorded (R222, R223). -/
theorem State.received_rxBind {s : State} {p : PktId} (h : s.HasSlot p) :
    s.Received p s.rx.flags [] (s.rxBind p) := by
  have memories := s.memories_rxBind p
  have flags := State.flagsOf_setFlagsLength h s.rx.flags 0
  have length := State.lengthOf_setFlagsLength h s.rx.flags 0
  cases p with
  | drv i =>
    exact ⟨⟨rfl, rfl, rfl, rfl, rfl, rfl, otherDrivers_setDrv s i _⟩, flags, congrArg BitVec.toNat length,
      fun k b hk => (nomatch hk), fun a _ => State.dbuf_eq memories i a⟩
  | app g =>
    have record : (s.rxBind (.app g)).appPkt g = _ := State.appPkt_setApp_same h _
    have capacity := congrArg AppPkt.capacity record
    have buffer := congrArg AppPkt.buffer record
    exact ⟨⟨rfl, rfl, rfl, rfl, rfl, otherApps_setApp s g _, capacity, buffer⟩, flags, congrArg BitVec.toNat length,
      fun k b hk => (nomatch hk), fun _ _ => rfl⟩

theorem State.Ok.capOf_le {s : State} (h : s.Ok) (p : PktId) : s.capOf p ≤ 65535 := by
  cases p with
  | drv i => exact h.drvCap_le
  | app g => exact Nat.le_of_lt_succ (s.appPkt g).capacity.isLt

/-- From the packet bound on: SIZE, the payload and END. -/
theorem State.Received.rxBytes_body {r s : State} {p : PktId} {f : Byte} {d : List Byte} (h : r.Received p f [] s)
    (ok : s.Ok) (hp : s.rx.pkt = some p) (hst : s.rx.state = .awaitSize1) (room : r.Room p d.length)
    (hcap : d.length ≤ r.capOf p) :
    ∃ t, s.rxBytes ([lowByte (BitVec.ofNat 16 d.length), highByte (BitVec.ofNat 16 d.length)] ++ escaped d ++
        [markEND]) = some t ∧ t.rx.state = .awaitStart ∧ t.rx.pkt = none ∧ t.rxq = s.rxq ++ p.drvSlot.toList ∧
      r.Received p (completeFlags f) d t := by
  rw [← h.only.capOf_eq] at hcap
  have hn : (BitVec.ofNat 16 d.length).toNat = d.length :=
    Nat.mod_eq_of_lt (Nat.lt_succ_of_le (hcap.trans (ok.capOf_le p)))
  have size := State.rxBytes_size hp hst (hn.symm ▸ hcap)
  have expects : State.Expects { s with rx := s.rx.sized (BitVec.ofNat 16 d.length) } p d := by
    refine ⟨ok.rxBytes size, hp, ?_, hn⟩
    have hempty : BitVec.ofNat 16 d.length = 0 ↔ d = [] := by
      rw [← List.length_eq_zero_iff, ← BitVec.toNat_inj, hn]
      rfl
    simp only [RxEngine.sized, hempty]
  obtain ⟨t, payload, done, received, rxq⟩ := expects.rxBytes_escaped (h.withRx _) room (by simp)
  have hend := State.rxStep_awaitEnd done.state done.pkt markEND
  refine ⟨t.rxEnd p markEND, ?_, ?_, ?_, ?_, received.rxEnd (done.ok.hasSlot_of_rx done.pkt)⟩
  · rw [State.rxBytes_append (State.rxBytes_append size _ |>.trans payload)]
    exact State.rxBytes_cons hend []
  · rw [State.rxEnd_END]; rfl
  · rw [State.rxEnd_END]; rfl
  · rw [State.rxq_rxEnd, rxq]

end Sys2Proof.Machine
end

section
/-! PROOFS. The round-trip law (43_rx_fsm.md R237): what a frame's first bytes bind, and the three statements put
together from the receiver's account of the rest and TXE's framing law (42_tx_fsm.md R204). -/

namespace Sys2Proof.Machine

/-! ### Flags on the wire and in the record (R113, R118, R231) -/

theorem isAppOwned_wireFlags (f : Byte) : isAppOwned (wireFlags f) = isAppOwned f := by
  simp [isAppOwned, wireFlags]

theorem completeFlags_recvFlags : ∀ f : Byte, completeFlags (recvFlags (wireFlags f)) = (f &&& 0x8F) ||| 0x60 := by
  decide

theorem frameOf_append (f : Byte) (index : Option Byte) (d : List Byte) :
    frameOf f index d = ([markSTART, wireFlags f] ++ index.toList) ++
      ([lowByte (BitVec.ofNat 16 d.length), highByte (BitVec.ofNat 16 d.length)] ++ escaped d ++ [markEND]) := by
  simp [frameOf]

/-! ### What START, FLAGS and INDEX bind (R221 to R223) -/

theorem State.rxStep_START {s : State} (hst : s.rx.state = .awaitStart) :
    s.rxStep markSTART = some (s.setRxState .awaitFlags) :=
  (State.rxStep_awaitStart hst markSTART).trans (congrArg some (if_pos rfl))

/-- FLAGS of a driver packet bind the head of FREEQ. -/
theorem State.rxBytes_bind_drv {s : State} {f : Byte} {i : Nat} {rest : List Nat} (hst : s.rx.state = .awaitStart)
    (hq : s.freeq = i :: rest) (hf : isAppOwned f = false) :
    s.rxBytes [markSTART, wireFlags f] =
      some (State.rxBind { s with freeq := rest, rx := { s.rx with flags := recvFlags (wireFlags f) } } (.drv i)) := by
  rw [State.rxBytes_cons (State.rxStep_START hst), State.rxBytes_cons (State.rxStep_awaitFlags rfl _),
    State.rxTakeFlags_head (s := s.setRxState .awaitFlags) ((isAppOwned_wireFlags f).trans hf) hq]
  rfl

/-- INDEX of an armed slot binds it. -/
theorem State.rxBytes_bind_app {s : State} {f x : Byte} (hst : s.rx.state = .awaitStart) (hf : isAppOwned f = true)
    (hx : x.toNat < s.nApp) (harmed : s.armed x.toNat = true) :
    s.rxBytes [markSTART, wireFlags f, x] =
      some (State.rxBind { s with rx := { s.rx with flags := recvFlags (wireFlags f) } } (.app x.toNat)) := by
  rw [State.rxBytes_cons (State.rxStep_START hst), State.rxBytes_cons (State.rxStep_awaitFlags rfl _),
    State.rxTakeFlags_app ((isAppOwned_wireFlags f).trans hf), State.rxBytes_cons (State.rxStep_awaitIndex rfl _),
    State.rxTakeIndex_armed]
  · rfl
  · exact hx
  · exact harmed

/-! ### Frames (R237) -/

/-- Settles O40: with the head of FREEQ bound, the account of its reception is the statement. -/
theorem receiverDeliversDriverFrames : Obligations.ReceiverDeliversDriverFrames := by
  intro r f d i rest hinv hst hq hf hcap
  have h := State.inv_iff.1 hinv
  have bound := State.rxBytes_bind_drv (f := f) hst hq hf
  have received := State.received_rxBind (p := .drv i)
    (s := { r with freeq := rest, rx := { r.rx with flags := recvFlags (wireFlags f) } })
    (h.located.lt_of_free (by simp [hq]))
  obtain ⟨t, bytes, state, pkt, rxq, done⟩ := received.rxBytes_body (h.rxBytes bound) rfl rfl
    (State.room_drv _ i _) hcap
  obtain ⟨mem, app, others⟩ := done.only.packets
  refine ⟨t, ?_, state, pkt, rxq, done.only.freeq, done.flags.trans (completeFlags_recvFlags f), done.length,
    fun k hk => done.bytes k _ (List.getElem?_eq_getElem hk), others, app, mem, done.only.tx, done.only.txq⟩
  rw [frameOf_append]
  exact (State.rxBytes_append bound _).trans bytes

/-- Settles O41: the armed slot is bound, and its buffer has room. -/
theorem receiverDeliversApplicationFrames : Obligations.ReceiverDeliversApplicationFrames := by
  intro r f x d hinv hst hf hx harmed hcap hspace hadmits
  have h := State.inv_iff.1 hinv
  have bound := State.rxBytes_bind_app hst hf hx (State.armed_iff.2 harmed)
  have received := State.received_rxBind (p := .app x.toNat)
    (s := { r with rx := { r.rx with flags := recvFlags (wireFlags f) } }) hx
  obtain ⟨t, bytes, state, pkt, rxq, done⟩ := received.rxBytes_body (h.rxBytes bound) rfl rfl
    (State.room_app hspace hadmits) hcap
  obtain ⟨drv, others, -, -⟩ := done.only.packets
  refine ⟨t, ?_, state, pkt, done.flags.trans (completeFlags_recvFlags f), done.length,
    fun k hk => done.bytes k _ (List.getElem?_eq_getElem hk), done.rest, others, drv, done.only.freeq,
    rxq.trans (List.append_nil _), done.only.tx, done.only.txq⟩
  rw [frameOf_append]
  exact (State.rxBytes_append bound _).trans bytes

/-- Settles O42: what TXE emits is the frame of the packet, and RXE delivers that frame. -/
theorem driverRoundTrip : Obligations.DriverRoundTrip := by
  intro s r i j q rest d sinv hidle hq payload rinv hst hfree hcap
  obtain ⟨-, s', slots, wire, idle, -⟩ := transmitterEmitsTheFrame s (.drv i) q d sinv hidle hq payload
  have h := State.inv_iff.1 sinv
  have owned := (h.drv (h.placed.slots (.drv i) (by simp [State.places, hq]))).owned
  obtain ⟨r', bytes, state, -, rxq, -, flags, length, stored, -⟩ :=
    receiverDeliversDriverFrames r (s.drvPkt i).flags d j rest rinv hst hfree owned hcap
  obtain ⟨hlen, -⟩ := payload
  refine ⟨_, s', r', slots, idle, ?_, state, rxq, flags, BitVec.eq_of_toNat_eq (length.trans hlen), length.symm,
    fun k hk => congrArg some (stored k hk)⟩
  rw [wire, List.drop_left]
  exact bytes

end Sys2Proof.Machine
end

section
/-! PROOFS. The application packet interface (44_app_interface.md): what the checks of R260 and R147 answer, and what
each of the five commands does past them. -/

namespace Sys2Proof.Machine

/-! ### The checks (R260, R147) -/

/-- A command that checks its handle answers BAD_HANDLE and nothing else, or is its body (R260). -/
theorem State.handle_clause {s t body : State} {h : Byte} {P : Prop} (ht : t = s.checkHandle h body)
    (past : h.toNat < s.nApp → t = body → P) : if s.nApp ≤ h.toNat then OnlyResult s t 0x03 0 0 0 else P := by
  split
  · next hbad =>
    rw [ht, State.checkHandle_bad hbad]
    exact onlyResult_putResult s .badHandle 0 0 0
  · next hok =>
    have hslot := Nat.lt_of_not_le hok
    exact past hslot (ht.trans (State.checkHandle_ok hslot body))

/-- One that checks both answers BAD_HANDLE, or BUSY, and nothing else, or is its body (R260, R147). -/
theorem State.handle_busy_clauses {s t body : State} {h : Byte} {P : Prop}
    (ht : t = s.checkHandle h (s.checkBusy h body)) (past : h.toNat < s.nApp → t = body → P) :
    if s.nApp ≤ h.toNat then OnlyResult s t 0x03 0 0 0
    else if h.toNat ∈ s.appPlaces then OnlyResult s t 0x02 h 0 0 else P := by
  refine State.handle_clause ht fun hslot eq => ?_
  split
  · next hbusy =>
    rw [ht]
    exact State.onlyResult_of_busy hslot (State.busy_iff_mem_appPlaces.2 hbusy) body
  · next hidle =>
    have hfree : s.busy h.toNat = false := Bool.eq_false_iff.2 (mt State.busy_iff_mem_appPlaces.1 hidle)
    exact past hslot (eq.trans (State.checkBusy_free hfree body))

/-! ### QUEUE_TX, ARM_RX and RELEASE (R261, R262, R265) -/

theorem queueFlags_operand (b : Byte) : queueFlags (b &&& 0x0F) = (b &&& 0x0F) ||| 0x80 ||| 0x10 := by
  rw [queueFlags, and_mask_and_mask]
  rfl

/-- Settles O11: past its checks QUEUE_TX writes the slot's record and puts it at the tail of TXQ. -/
theorem queueTxQueuesTheSlot : Obligations.QueueTxQueuesTheSlot := by
  intro s h b
  refine ⟨decode_cmdWord (.queueTx 0 0) h b, _, rfl, State.handle_busy_clauses rfl fun hslot eq => ?_⟩
  rw [eq, ← queueFlags_operand]
  exact ⟨State.appPkt_setApp_same hslot _, rfl, rfl, rfl, otherApps_setApp s _ _,
    ⟨rfl, rfl, rfl, rfl, rfl, rfl, rfl, rfl⟩, rfl, rfl, rfl, rfl, rfl⟩

/-- Settles O12: past its checks ARM_RX writes the slot's record. -/
theorem armRxArmsTheSlot : Obligations.ArmRxArmsTheSlot := by
  intro s h b
  refine ⟨decode_cmdWord (.armRx 0) h b, _, rfl, State.handle_busy_clauses rfl fun hslot eq => ?_⟩
  rw [eq]
  exact ⟨State.appPkt_setApp_same hslot _, rfl, otherApps_setApp s _ _, ⟨rfl, rfl, rfl, rfl, rfl, rfl, rfl, rfl⟩,
    rfl, rfl, rfl, rfl, rfl, rfl, rfl⟩

theorem releaseFlags_eq (f : Byte) : releaseFlags f = f &&& 0x8F := rfl

/-- Settles O15: past its checks RELEASE writes the flags of the slot's record. -/
theorem releaseClearsStatusBits : Obligations.ReleaseClearsStatusBits := by
  intro s h b
  refine ⟨decode_cmdWord (.release 0) h b, _, rfl, State.handle_busy_clauses rfl fun hslot eq => ?_⟩
  rw [eq, ← releaseFlags_eq]
  exact ⟨State.appPkt_setApp_same hslot _, rfl, otherApps_setApp s _ _, ⟨rfl, rfl, rfl, rfl, rfl, rfl, rfl, rfl⟩,
    rfl, rfl, rfl, rfl, rfl, rfl, rfl⟩

/-! ### The predicates (R263, R264, R267) -/

/-- DONE, with FOR_RX as the direction asks, read off the two bits (R23). -/
theorem boolByte_done : ∀ (forRx : Bool) (f : Byte), boolByte (isDone f && (isForRx f == forRx)) =
    if f &&& 0x60 = (if forRx then 0x60 else 0x20) then 1 else 0 := by decide

/-- The predicate of a legal handle writes only the result (R263, R264). -/
theorem State.onlyResult_predicate (s : State) (h : Byte) (forRx : Bool) :
    OnlyResult s (s.predicate h forRx) 0
      (if (s.appPkt h.toNat).flags &&& 0x60 = (if forRx then 0x60 else 0x20) then 1 else 0)
      (s.appPkt h.toNat).flags (s.appPkt h.toNat).length := by
  rw [← boolByte_done]
  exact onlyResult_putResult s .ok _ _ _

/-- Settles O13: IS_TX_DONE is the predicate with FOR_RX clear, IS_RX_DONE with FOR_RX set. -/
theorem predicatesReportDone : Obligations.PredicatesReportDone := by
  intro s h b
  refine ⟨decode_cmdWord (.isTxDone 0) h b, decode_cmdWord (.isRxDone 0) h b,
    ⟨_, rfl, State.handle_clause rfl fun _ eq => ?_⟩, ⟨_, rfl, State.handle_clause rfl fun _ eq => ?_⟩⟩
  · rw [eq]; exact s.onlyResult_predicate h false
  · rw [eq]; exact s.onlyResult_predicate h true

/-- A predicate answers a result, and the same result from the state it answers (R267). -/
theorem State.checkHandle_predicate_repeats (s : State) (h : Byte) (forRx : Bool) : ∃ t st val fl len,
    t = s.putResult st val fl len ∧ s.checkHandle h (s.predicate h forRx) = t ∧
      t.checkHandle h (t.predicate h forRx) = t := by
  obtain hslot | hbad := Nat.lt_or_ge h.toNat s.nApp
  · exact ⟨_, .ok, _, _, _, rfl, State.checkHandle_ok hslot _, State.checkHandle_ok (s := s.predicate h forRx) hslot _⟩
  · exact ⟨_, .badHandle, 0, 0, 0, rfl, State.checkHandle_bad hbad _,
      State.checkHandle_bad (s := s.putResult .badHandle 0 0 0) hbad _⟩

/-- Settles O14: the second result is the first, written over it. -/
theorem predicatesRepeatUnchanged : Obligations.PredicatesRepeatUnchanged := by
  intro s h i hi
  obtain ⟨forRx, hexec⟩ : ∃ forRx, ∀ t : State, exec i t = .next (t.checkHandle h (t.predicate h forRx)) := by
    simp only [List.mem_cons, List.not_mem_nil, or_false] at hi
    obtain rfl | rfl := hi
    · exact ⟨false, fun _ => rfl⟩
    · exact ⟨true, fun _ => rfl⟩
  obtain ⟨t, st, val, fl, len, rfl, first, again⟩ := s.checkHandle_predicate_repeats h forRx
  exact ⟨_, (hexec s).trans (congrArg _ first), ⟨_, val, fl, len, onlyResult_putResult s st val fl len⟩,
    (hexec _).trans (congrArg _ again)⟩

end Sys2Proof.Machine
end

section
/-! PROOFS. How a busy handle stops being busy (44_app_interface.md R266; 70_reset_and_hazards.md R358): of the moves of
the pool only two take an application packet out of its places, and each engine makes its own one at the end of a
transfer. -/

namespace Sys2Proof.Machine

/-! ### The moves of the pool and the application packets -/

/-- Application packet `g` stands in one of the places (R147). -/
def Pool.HasApp (P : Pool) (g : Nat) : Prop :=
  .app g ∈ P.txq ∨ P.txing = some (.app g) ∨ P.rxing = some (.app g)

theorem State.mem_appPlaces_iff_pool {s : State} {g : Nat} : g ∈ s.appPlaces ↔ s.pool.HasApp g := State.mem_appPlaces

/-- A move takes an application packet out of the places only by emptying the engine it is in. -/
theorem Pool.Moves.app_leaves {tx : TxState} {rx : RxState} {P Q : Pool} {g : Nat} (m : P.Moves tx rx Q)
    (htx : tx = .idle → P.txing = none) (hrx : rx = .awaitFlags ∨ rx = .awaitIndex → P.rxing = none)
    (hP : P.HasApp g) (hQ : ¬Q.HasApp g) :
    P.txing = some (.app g) ∧ Q.txing = none ∨ P.rxing = some (.app g) ∧ Q.rxing = none := by
  cases m with
  | stay => exact absurd hP hQ
  | startTx hst => have := htx hst; grind [Pool.HasApp]
  | bindHead hst => have := hrx (.inl hst); grind [Pool.HasApp]
  | bindApp hst => have := hrx (.inr hst); grind [Pool.HasApp]
  | openHead | handOver | reopen | fillHead => grind [Pool.HasApp, Pool.openHead, Pool.handOver]
  | queueApp | sentDrv | sentApp | abortDrv | completeDrv | dropApp => grind [Pool.HasApp]

theorem State.Ok.app_leaves {s t : State} {g : Nat} (h : s.Ok) (m : s.Moves t) (hg : g ∈ s.appPlaces)
    (hout : g ∉ t.appPlaces) :
    s.tx.pkt = some (.app g) ∧ t.tx.pkt = none ∨ s.rx.pkt = some (.app g) ∧ t.rx.pkt = none :=
  m.app_leaves h.txUnbound.1 (fun hst => h.rxUnbound.1 (.inr hst)) (State.mem_appPlaces_iff_pool.1 hg)
    (mt State.mem_appPlaces_iff_pool.2 hout)

/-! ### The foreground -/

/-- Commands leave the engines what they have in flight (R304), and TXQ what waits there. -/
theorem State.Ok.exec_appPlaces {c : Instr} {s t : State} (h : s.Ok) (ht : Machine.exec c s = .next t) :
    s.appPlaces ⊆ t.appPlaces := by
  intro g hg
  have outside := exec_outside ht
  simp only [State.outside, Prod.mk.injEq] at outside
  obtain ⟨tx, rx, -⟩ := outside
  obtain m | ⟨-, i, rest, -, eq⟩ | ⟨-, i, eq⟩ := exec_moves ht
  · by_contra hout
    obtain ⟨hp, hnone⟩ | ⟨hp, hnone⟩ := h.app_leaves m hg hout
    · rw [tx, hp] at hnone; cases hnone
    · rw [rx, hp] at hnone; cases hnone
  · rw [State.mem_appPlaces_iff_pool, eq]; exact State.mem_appPlaces_iff_pool.1 hg
  · rw [State.mem_appPlaces_iff_pool, eq]; exact State.mem_appPlaces_iff_pool.1 hg

theorem State.Ok.fgTurn_appPlaces {s t : State} (h : s.Ok) (ht : s.fgTurn = .next t) : s.appPlaces ⊆ t.appPlaces := by
  obtain ⟨w, f, -, hrun⟩ | ⟨a, b, rest, -, -, rfl⟩ | ⟨f, r, o, rfl⟩ := State.fgTurn_cases ht
  · unfold State.runCommand at hrun
    split at hrun
    · exact (h.setFg f).exec_appPlaces hrun
    · cases hrun; exact List.Subset.refl _
  · obtain ⟨m, o, eq⟩ := State.hostWrite_eq { s with fg := { s.fg with ops := rest } } a b
    rw [eq]
    exact List.Subset.refl _
  · exact List.Subset.refl _

/-! ### The transmit engine -/

/-- A step of TXE leaves RXE alone, and keeps the packet in flight until END (R191 to R199). -/
theorem State.txStep_keeps {s t : State} (ht : s.txStep = some t) :
    t.rx = s.rx ∧ (s.tx.state = .idle ∨ t.tx.pkt = s.tx.pkt ∨
      s.tx.state = .sentAllData ∧ ∃ p, s.tx.pkt = some p ∧ t = s.txEnd p) := by
  unfold State.txStep at ht
  cases hst : s.tx.state <;> simp only [hst, Option.some.injEq, Option.map_eq_some_iff, Option.bind_eq_some_iff] at ht
  case idle =>
    subst ht
    unfold State.txIdle
    split <;> exact ⟨rfl, .inl rfl⟩
  case sentFlags =>
    obtain ⟨p, -, ht⟩ := ht
    unfold State.txIndexOrSize at ht
    split at ht
    · obtain ⟨x, -, rfl⟩ := Option.map_eq_some_iff.1 ht
      exact ⟨rfl, .inr (.inl rfl)⟩
    · cases ht; exact ⟨rfl, .inr (.inl rfl)⟩
  case sentSize2 | sentData =>
    obtain ⟨p, -, ht⟩ := ht
    obtain ⟨b, -, ⟨-, rfl⟩ | ⟨-, rfl⟩⟩ := State.txData_eq_some ht <;> exact ⟨rfl, .inr (.inl rfl)⟩
  case sentAllData =>
    obtain ⟨p, hp, rfl⟩ := ht
    exact ⟨by cases p <;> rfl, .inr (.inr ⟨rfl, p, hp, rfl⟩)⟩
  case sentStart | sentIndex | sentSize1 | sentEsc =>
    obtain ⟨p, -, rfl⟩ := ht
    exact ⟨rfl, .inr (.inl rfl)⟩

theorem completeFlags_sending : ∀ f : Byte, f &&& 0x70 = 0x10 → completeFlags f &&& 0x70 = 0x20 := by decide

/-- A handle that a turn of TXE leaves idle is one whose END it has sent (R199, R266). -/
theorem State.Ok.txTurn_releases {s : State} {g : Nat} (h : s.Ok) (hg : g ∈ s.appPlaces)
    (hout : g ∉ s.txTurn.appPlaces) :
    s.tx.state = .sentAllData ∧ s.tx.pkt = some (.app g) ∧ (s.txTurn.appPkt g).flags &&& 0x70 = 0x20 := by
  obtain eq | ⟨-, -, hstep⟩ := s.txTurn_cases
  · exact absurd (eq.symm ▸ hg) hout
  obtain ⟨rx, ends⟩ := State.txStep_keeps hstep
  obtain ⟨hp, hnone⟩ | ⟨hp, hnone⟩ := h.app_leaves s.moves_txTurn hg hout
  · obtain hidle | same | ⟨hst, p, hp', eq⟩ := ends
    · rw [h.txUnbound.1 hidle] at hp; cases hp
    · rw [same, hp] at hnone; cases hnone
    · obtain rfl : .app g = p := Option.some.inj (hp.symm.trans hp')
      obtain ⟨done, -⟩ := completed_txEnd (h.located.hasSlot_of_tx hp)
      rw [eq, done]
      exact ⟨hst, hp, completeFlags_sending _ (h.sending _ hp).2⟩
  · rw [rx, hp] at hnone; cases hnone

/-! ### The receive engine -/

/-- A step of RXE from `s` to `t` leaves TXE alone, and keeps the packet bound unless it completes or aborts it. -/
def State.KeptByRx (s t : State) : Prop :=
  t.tx = s.tx ∧ ∀ p, s.rx.pkt = some p →
    t.rx.pkt = some p ∨ t = s.rxEnd p markEND ∨ ∃ x : RxEngine, x.pkt = some p ∧ t = State.rxAbort { s with rx := x }

theorem State.KeptByRx.of_same {s t : State} (htx : t.tx = s.tx) (hrx : t.rx.pkt = s.rx.pkt) : s.KeptByRx t :=
  ⟨htx, fun _ hp => .inl (hrx.trans hp)⟩

theorem State.KeptByRx.of_unbound {s t : State} (htx : t.tx = s.tx) (hs : s.rx.pkt = none) : s.KeptByRx t :=
  ⟨htx, fun _ hp => by rw [hs] at hp; cases hp⟩

theorem State.tx_rxAbort (s : State) : s.rxAbort.tx = s.tx := by
  obtain ⟨d, a, q, eq⟩ := s.rxAbort_eq
  rw [eq]

theorem State.keptByRx_rxAbort {s : State} {x : RxEngine} (hx : x.pkt = s.rx.pkt) :
    s.KeptByRx (State.rxAbort { s with rx := x }) :=
  ⟨State.tx_rxAbort _, fun _ hp => .inr (.inr ⟨x, hx.trans hp, rfl⟩)⟩

theorem State.keptByRx_rxTakeFlags {s : State} (hs : s.rx.pkt = none) (b : Byte) : s.KeptByRx (s.rxTakeFlags b) := by
  cases hb : isAppOwned b with
  | true => rw [State.rxTakeFlags_app hb]; exact .of_unbound rfl hs
  | false =>
    cases hq : s.freeq with
    | nil => rw [State.rxTakeFlags_empty hb hq]; exact State.keptByRx_rxAbort rfl
    | cons i rest => rw [State.rxTakeFlags_head hb hq]; exact .of_unbound rfl hs

theorem State.keptByRx_rxTakeIndex {s : State} (hs : s.rx.pkt = none) (b : Byte) : s.KeptByRx (s.rxTakeIndex b) := by
  unfold State.rxTakeIndex
  split
  · exact State.keptByRx_rxAbort (x := s.rx) rfl
  · exact .of_unbound rfl hs

theorem State.keptByRx_rxSizeHigh (s : State) (p : PktId) (b : Byte) : s.KeptByRx (s.rxSizeHigh p b) := by
  unfold State.rxSizeHigh
  extract_lets n x s1
  split
  · exact State.keptByRx_rxAbort (x := s1.rx) rfl
  · exact .of_same rfl rfl

theorem State.rxStore_keptByRx {s t : State} {p : PktId} {b : Byte} (ht : s.rxStore p b = some t) : s.KeptByRx t := by
  obtain ⟨s1, hw, rfl⟩ := State.rxStore_eq_some ht
  cases p with
  | drv i => cases hw; exact .of_same rfl rfl
  | app g =>
    obtain ⟨-, rfl⟩ := State.memWrite_eq_some.1 hw
    exact .of_same rfl rfl

theorem State.keptByRx_rxEnd {s : State} {p : PktId} (hp : s.rx.pkt = some p) (b : Byte) :
    s.KeptByRx (s.rxEnd p b) := by
  by_cases hb : b = markEND
  · subst hb
    exact ⟨by cases p <;> rfl, fun q hq => .inr (.inl (by rw [Option.some.inj (hp.symm.trans hq)]))⟩
  · rw [State.rxEnd_other hb]
    exact State.keptByRx_rxAbort (x := s.rx) rfl

theorem State.Ok.rxStep_keptByRx {s t : State} {b : Byte} (h : s.Ok) (ht : s.rxStep b = some t) : s.KeptByRx t := by
  unfold State.rxStep at ht
  cases hst : s.rx.state <;> simp only [hst, Option.some.injEq, Option.map_eq_some_iff, Option.bind_eq_some_iff] at ht
  case awaitStart =>
    subst ht
    unfold State.rxStart
    split <;> exact .of_same rfl rfl
  case awaitFlags => exact ht ▸ State.keptByRx_rxTakeFlags (h.rxUnbound.1 (.inr (.inl hst))) b
  case awaitIndex => exact ht ▸ State.keptByRx_rxTakeIndex (h.rxUnbound.1 (.inr (.inr hst))) b
  case awaitSize1 => exact ht ▸ .of_same rfl rfl
  case awaitSize2 =>
    obtain ⟨p, -, rfl⟩ := ht
    exact s.keptByRx_rxSizeHigh p b
  case awaitDataEsc =>
    obtain ⟨p, -, ht⟩ := ht
    unfold State.rxDataEsc at ht
    split at ht
    · cases ht; exact .of_same rfl rfl
    · exact State.rxStore_keptByRx ht
  case awaitData =>
    obtain ⟨p, -, ht⟩ := ht
    exact State.rxStore_keptByRx ht
  case awaitEnd =>
    obtain ⟨p, hp, rfl⟩ := ht
    exact State.keptByRx_rxEnd hp b

/-- A handle that a turn of RXE leaves idle is one whose reception it has completed or aborted (R231, R232, R266). -/
theorem State.Ok.rxTurn_releases {s : State} {g : Nat} (h : s.Ok) (hg : g ∈ s.appPlaces)
    (hout : g ∉ s.rxTurn.appPlaces) :
    s.rx.pkt = some (.app g) ∧ s.rxTurn.rx.state = .awaitStart ∧
      ((s.rxTurn.appPkt g).flags &&& 0x70 = 0x60 ∨ (s.rxTurn.appPkt g).flags = 0xD0) := by
  obtain eq | ⟨b, -, hstep⟩ := s.rxTurn_cases
  · exact absurd (eq.symm ▸ hg) hout
  obtain ⟨tx, ends⟩ := h.takeByte.rxStep_keptByRx hstep
  obtain ⟨hp, hnone⟩ | ⟨hp, hnone⟩ := h.app_leaves s.moves_rxTurn hg hout
  · rw [tx] at hnone
    exact absurd (hp.symm.trans hnone) (by simp)
  · refine ⟨hp, ?_⟩
    have located := h.takeByte.located
    obtain same | eq | ⟨x, hx, eq⟩ := ends _ hp
    · rw [hnone] at same; cases same
    · obtain ⟨done, -⟩ := completed_rxComplete (located.hasSlot_of_rx hp)
      rw [eq, State.rxEnd_END]
      exact ⟨rfl, .inl ((congrArg (fun a : AppPkt => a.flags &&& 0x70) done).trans
        (completeFlags_status _ (h.receiving _ hp).2))⟩
    · obtain ⟨rx, -, -, app, -⟩ := located.aborted_rxAbort (hx.trans hp.symm)
      obtain ⟨armed, -⟩ := app g hp
      rw [eq, rx, armed]
      exact ⟨rfl, .inr rfl⟩

/-! ### Steps -/

/-- Settles O49: the foreground and LINK free no handle, and each engine frees only the one whose transfer ends. -/
theorem busyEndsWithTheTransfer : Obligations.BusyEndsWithTheTransfer := by
  intro s t g hinv ht hreset hg hout
  have h := (State.inv_iff.1 hinv).afterDraw
  obtain ⟨o, ho⟩ := s.afterDraw_eq
  rw [ho] at h
  rw [step, ho] at ht
  generalize s.nextDraw = d at ht hreset ⊢
  cases d with
  | fg => exact absurd (h.fgTurn_appPlaces ht hg) hout
  | rxe => cases ht; exact .inr ⟨rfl, h.rxTurn_releases hg hout⟩
  | txe => cases ht; exact .inl ⟨rfl, h.txTurn_releases hg hout⟩
  | linkByte =>
    cases ht
    rw [State.mem_appPlaces_iff_pool, State.pool_linkPresent] at hout
    exact absurd (State.mem_appPlaces_iff_pool.1 hg) hout
  | linkReady r => cases ht; exact absurd hg hout
  | reset => exact absurd rfl hreset

end Sys2Proof.Machine
end

section
/-! PROOFS. The receive consumer (45_consumer_control.md R290 to R292): what the check of R291 answers, and what each of
the three commands does past it. -/

namespace Sys2Proof.Machine

/-! ### The check (R146, R291) -/

/-- A command that checks its slot answers BAD_HANDLE and nothing else, or is its body (R291, R292). -/
theorem State.held_clause {s t body : State} {i : Byte} {P : Prop} (ht : t = s.checkHeld i body)
    (past : i.toNat < s.nDrv → t = body → P) :
    if ¬(i.toNat < s.nDrv ∧ i.toNat ∉ s.drvPlaces) then OnlyResult s t 0x03 0 0 0 else P := by
  split
  · next hnot =>
    have hheld : s.held i.toNat = false := Bool.eq_false_iff.2 (mt State.held_iff_not_mem_drvPlaces.1 hnot)
    rw [ht, State.checkHeld_not hheld]
    exact onlyResult_putResult s .badHandle 0 0 0
  · next hin =>
    have hslot := not_not.1 hin
    exact past hslot.1 (ht.trans (State.checkHeld_held (State.held_iff_not_mem_drvPlaces.2 hslot) body))

/-! ### RX_COLLECT, RX_READ_BYTE and RX_FREE -/

theorem execRxCollect_empty {s : State} (hq : s.rxq = []) : execRxCollect s = .next (s.putResult .empty 0 0 0) := by
  rw [execRxCollect, hq, dequeue_nil]

theorem execRxCollect_head {s : State} {i : Nat} {rest : List Nat} (hq : s.rxq = i :: rest) :
    execRxCollect s =
      .next (State.putResult { s with rxq := rest } .ok (slotByte i) (s.drvPkt i).flags (s.drvPkt i).length) := by
  rw [execRxCollect, hq, dequeue_cons]

/-- Settles O17: the queue is empty, or its head is taken and reported. -/
theorem rxCollectTakesTheOldest : Obligations.RxCollectTakesTheOldest := by
  intro s a b
  refine ⟨decode_cmdWord .rxCollect a b, ?_⟩
  cases hq : s.rxq with
  | nil => exact ⟨_, execRxCollect_empty hq, onlyResult_putResult s .empty 0 0 0⟩
  | cons i rest =>
    exact ⟨_, execRxCollect_head hq, rfl, rfl, ⟨rfl, rfl, rfl, rfl, rfl, rfl, rfl, rfl⟩, rfl, rfl, rfl, rfl, rfl, rfl,
      rfl⟩

/-- Settles O18: past the check the answer is a result, which the offset's place below the length decides. -/
theorem rxReadByteReadsHeldPackets : Obligations.RxReadByteReadsHeldPackets := by
  intro s i b
  refine ⟨decode_cmdWord (.rxReadByte 0) i b, _, rfl, State.held_clause rfl fun _ eq => ?_⟩
  rw [eq]
  split
  · next hpast =>
    rw [show s.readHeld i = s.putResult .badArg 0 0 0 from if_pos hpast]
    exact onlyResult_putResult s .badArg 0 0 0
  · next hbelow =>
    rw [show s.readHeld i = s.putResult .ok _ _ _ from if_neg hbelow]
    exact onlyResult_putResult s .ok _ _ _

/-- Settles O19: past the check RX_FREE writes the packet's record and puts its slot at the tail of FREEQ. -/
theorem rxFreeReturnsHeldPackets : Obligations.RxFreeReturnsHeldPackets := by
  intro s i b
  refine ⟨decode_cmdWord (.rxFree 0) i b, _, rfl, State.held_clause rfl fun hslot eq => ?_⟩
  rw [eq]
  exact ⟨State.drvPkt_setDrv_same hslot _, rfl, rfl, otherDrivers_setDrv s _ _,
    ⟨rfl, rfl, rfl, rfl, rfl, rfl, rfl, rfl⟩, rfl, rfl, rfl, rfl, rfl, rfl⟩

end Sys2Proof.Machine
end

section
/-! PROOFS. Commands that fail (45_consumer_control.md R304): a status other than OK is written by a check, before the
command has done anything else; START_OUTGOING alone fails after a change (R161). -/

namespace Sys2Proof.Machine

/-- If RESULT.ST in `t` is not OK, then `t` is `s` with a result written, or `s` itself, the answer of a held APPEND. -/
def State.FailsCleanly (s t : State) : Prop :=
  t.regs.result.extractLsb' 0 8 ≠ 0 → (∃ st val fl len, t = s.putResult st val fl len) ∨ t = s

theorem State.FailsCleanly.result {s : State} {st : Status} {val fl : Byte} {len : Half} :
    s.FailsCleanly (s.putResult st val fl len) := fun _ => .inl ⟨st, val, fl, len, rfl⟩

/-- Whatever a command that answers OK has done, it has not failed. -/
theorem State.FailsCleanly.ok {s t : State} {val fl : Byte} {len : Half} :
    s.FailsCleanly (t.putResult .ok val fl len) :=
  fun h => absurd (fieldOP_fourBytes 0 fl val (statusCode .ok)) h

theorem State.FailsCleanly.ite {c : Prop} [Decidable c] {s t u : State} (ht : s.FailsCleanly t)
    (hu : s.FailsCleanly u) : s.FailsCleanly (if c then t else u) := by
  split
  · exact ht
  · exact hu

theorem State.FailsCleanly.checkHandle {s body : State} (a : Byte) (h : s.FailsCleanly body) :
    s.FailsCleanly (s.checkHandle a body) := .ite .result h

theorem State.FailsCleanly.checkBusy {s body : State} (a : Byte) (h : s.FailsCleanly body) :
    s.FailsCleanly (s.checkBusy a body) := .ite .result h

theorem State.FailsCleanly.checkHeld {s body : State} (i : Byte) (h : s.FailsCleanly body) :
    s.FailsCleanly (s.checkHeld i body) := .ite h .result

/-- An APPEND that is not held answers OK (R164). -/
theorem State.append_answersOk {s : State} (h : s.bld.pkt ≠ none ∨ s.freeq ≠ []) (b : Byte) :
    ∃ t val fl len, s.append b = State.putResult t .ok val fl len := by
  cases hb : s.bld.pkt with
  | some i => exact ⟨_, _, _, _, State.append_open hb b⟩
  | none =>
    cases hq : s.freeq with
    | nil => exact absurd h (by simp [hb, hq])
    | cons i q => exact ⟨_, _, _, _, State.append_head hb hq b⟩

/-- An APPEND holds, changing nothing, or answers OK (R163, R164). -/
theorem State.failsCleanly_append (s : State) (b : Byte) : s.FailsCleanly (s.append b) := by
  by_cases h : s.bld.pkt ≠ none ∨ s.freeq ≠ []
  · obtain ⟨t, val, fl, len, eq⟩ := State.append_answersOk h b
    rw [eq]
    exact .ok
  · obtain ⟨hb, hq⟩ := not_or.1 h
    exact fun _ => .inr (State.append_held (not_not.1 hb) (not_not.1 hq) b)

/-- So does one that infers the usage, since the inference waits for the step (R163, R165). -/
theorem State.failsCleanly_appendInfer (s : State) (b : Byte) : s.FailsCleanly ((s.infer b).append b) := by
  by_cases hq : s.freeq = []
  · rw [State.infer_held hq]
    exact s.failsCleanly_append b
  · obtain ⟨carry, eq⟩ := s.infer_eq b
    obtain ⟨t, val, fl, len, eq'⟩ := State.append_answersOk (s := s.infer b) (.inr (by rwa [eq])) b
    rw [eq']
    exact .ok

theorem execRxCollect_failsCleanly {s t : State} (ht : execRxCollect s = .next t) : s.FailsCleanly t := by
  cases hq : s.rxq with
  | nil => rw [execRxCollect_empty hq] at ht; cases ht; exact .result
  | cons i rest => rw [execRxCollect_head hq] at ht; cases ht; exact .ok

/-- Every command but START_OUTGOING fails before it changes anything (R304). -/
theorem exec_failsCleanly {i : Instr} {s t : State} (ht : exec i s = .next t) (hi : ∀ u, i ≠ .startOutgoing u) :
    s.FailsCleanly t := by
  cases i with
  | startOutgoing usage => exact absurd rfl (hi usage)
  | rxCollect => exact execRxCollect_failsCleanly ht
  | appendByte b => cases ht; exact s.failsCleanly_append b
  | appendInfer b => cases ht; exact s.failsCleanly_appendInfer b
  | nop | flush | setActive _ | queryActive => cases ht; exact .ok
  | queueTx a _ | armRx a | release a => cases ht; exact .checkHandle a (.checkBusy a .ok)
  | isTxDone a | isRxDone a => cases ht; exact .checkHandle a .ok
  | rxReadByte a => cases ht; exact .checkHeld a (.ite .result .ok)
  | rxFree a => cases ht; exact .checkHeld a .ok

/-- Settles O23: a command that fails has written a result and nothing else. -/
theorem failedCommandsChangeNothing : Obligations.FailedCommandsChangeNothing := by
  intro i s t ht hi _ hst
  obtain ⟨st, val, fl, len, rfl⟩ | rfl := exec_failsCleanly ht hi hst
  · exact .inl rfl
  · exact .inr rfl

end Sys2Proof.Machine
end

section
/-! PROOFS. The control commands (45_consumer_control.md R300 to R302). ACTIVE gates nothing (R300): every command
but the two that speak of it does the same with ACTIVE at another value, and leaves it there. -/

namespace Sys2Proof.Machine

/-! ### Another value of ACTIVE -/

/-- The state with ACTIVE at `c`, all else as it is. -/
def State.withActive (s : State) (c : Bool) : State := { s with active := c }

theorem ite_withActive {q : Prop} [Decidable q] {s t s' t' : State} {c : Bool} (hs : s' = s.withActive c)
    (ht : t' = t.withActive c) : (if q then s' else t') = (if q then s else t).withActive c := by
  rw [hs, ht, apply_ite (State.withActive · c)]

theorem ite_map_withActive {q : Prop} [Decidable q] {o r o' r' : Option State} {c : Bool}
    (ho : o' = o.map (·.withActive c)) (hr : r' = r.map (·.withActive c)) :
    (if q then o' else r') = (if q then o else r).map (·.withActive c) := by
  rw [ho, hr, apply_ite (Option.map (State.withActive · c))]

theorem map_withActive {o : Option PktId} {f f' : PktId → State} {c : Bool} (h : ∀ p, f' p = (f p).withActive c) :
    o.map f' = (o.map f).map (·.withActive c) := by
  rw [funext h, Option.map_map]
  rfl

theorem bind_withActive {o : Option PktId} {f f' : PktId → Option State} {c : Bool}
    (h : ∀ p, f' p = (f p).map (·.withActive c)) : o.bind f' = (o.bind f).map (·.withActive c) := by
  rw [funext h, Option.map_bind]
  rfl

/-! ### Commands -/

theorem State.checkHandle_withActive {s body body' : State} {c : Bool} (h : Byte) (hbody : body' = body.withActive c) :
    (s.withActive c).checkHandle h body' = (s.checkHandle h body).withActive c := ite_withActive rfl hbody

theorem State.checkBusy_withActive {s body body' : State} {c : Bool} (h : Byte) (hbody : body' = body.withActive c) :
    (s.withActive c).checkBusy h body' = (s.checkBusy h body).withActive c := ite_withActive rfl hbody

theorem State.checkHeld_withActive {s body body' : State} {c : Bool} (i : Byte) (hbody : body' = body.withActive c) :
    (s.withActive c).checkHeld i body' = (s.checkHeld i body).withActive c := ite_withActive hbody rfl

theorem State.readHeld_withActive (s : State) (c : Bool) (i : Byte) :
    (s.withActive c).readHeld i = (s.readHeld i).withActive c := ite_withActive rfl rfl

theorem State.bldFlush_withActive (s : State) (c : Bool) : (s.withActive c).bldFlush = s.bldFlush.withActive c := by
  cases hb : s.bld.pkt with
  | none => rw [State.bldFlush_none hb, State.bldFlush_none (s := s.withActive c) hb]
  | some i => rw [State.bldFlush_some hb, State.bldFlush_some (s := s.withActive c) hb]; rfl

/-- The byte is stored the same, and the fragment is closed or not by its length and `DRV_CAP` (R164). -/
theorem State.bldStore_withActive (s : State) (c : Bool) (i : Nat) (b : Byte) :
    (s.withActive c).bldStore i b = (s.bldStore i b).withActive c := by
  have hcap : (s.withActive c).cfg.drvCap = s.cfg.drvCap := rfl
  have hrec : (s.withActive c).drvPkt i = s.drvPkt i := rfl
  unfold State.bldStore
  simp only [hcap, hrec]
  split <;> rfl

theorem State.append_withActive (s : State) (c : Bool) (b : Byte) :
    (s.withActive c).append b = (s.append b).withActive c := by
  cases hb : s.bld.pkt with
  | some i =>
    rw [State.append_open hb, State.append_open (s := s.withActive c) hb]
    exact s.bldStore_withActive c i b
  | none =>
    cases hq : s.freeq with
    | nil => rw [State.append_held hb hq, State.append_held (s := s.withActive c) hb hq]
    | cons i q =>
      rw [State.append_head hb hq, State.append_head (s := s.withActive c) hb hq]
      exact State.bldStore_withActive
        (State.bldOpen { s with freeq := q } i (openFlags s.bld.carry (!s.bld.cont))) c i b

theorem State.infer_withActive (s : State) (c : Bool) (b : Byte) : (s.withActive c).infer b = (s.infer b).withActive c :=
  ite_withActive rfl rfl

theorem exec_startOutgoing_withActive {s t : State} {usage : Byte} (c : Bool)
    (ht : exec (.startOutgoing usage) s = .next t) :
    exec (.startOutgoing usage) (s.withActive c) = .next (t.withActive c) := by
  have restarted : ∀ u, (s.withActive c).restarted u = (s.restarted u).withActive c := fun u => by
    rw [State.restarted, State.bldFlush_withActive]
    rfl
  cases hq : s.freeq with
  | nil =>
    rw [exec_startOutgoing_empty hq] at ht
    cases ht
    rw [exec_startOutgoing_empty (s := s.withActive c) hq, restarted]
    rfl
  | cons i rest =>
    rw [exec_startOutgoing_head hq] at ht
    cases ht
    rw [exec_startOutgoing_head (s := s.withActive c) hq, restarted]
    rfl

theorem execRxCollect_withActive {s t : State} (c : Bool) (ht : execRxCollect s = .next t) :
    execRxCollect (s.withActive c) = .next (t.withActive c) := by
  cases hq : s.rxq with
  | nil =>
    rw [execRxCollect_empty hq] at ht
    cases ht
    exact execRxCollect_empty (s := s.withActive c) hq
  | cons i rest =>
    rw [execRxCollect_head hq] at ht
    cases ht
    exact execRxCollect_head (s := s.withActive c) hq

/-- A command that neither reads nor writes ACTIVE does the same whatever it is (R300). -/
theorem exec_withActive {i : Instr} {s t : State} (c : Bool) (hquery : i ≠ .queryActive) (hset : ∀ x, i ≠ .setActive x)
    (ht : exec i s = .next t) : exec i (s.withActive c) = .next (t.withActive c) := by
  cases i with
  | queryActive => exact absurd rfl hquery
  | setActive x => exact absurd rfl (hset x)
  | nop => cases ht; rfl
  | startOutgoing usage => exact exec_startOutgoing_withActive c ht
  | appendByte b => cases ht; exact congrArg Host.Outcome.next (s.append_withActive c b)
  | appendInfer b =>
    cases ht
    have inferred := congrArg (State.append · b) (s.infer_withActive c b)
    exact congrArg Host.Outcome.next (inferred.trans (State.append_withActive _ c b))
  | flush =>
    cases ht
    rw [exec, execFlush, State.bldFlush_withActive]
    rfl
  | queueTx a _ | armRx a | release a =>
    cases ht
    exact congrArg Host.Outcome.next (State.checkHandle_withActive a (State.checkBusy_withActive a rfl))
  | isTxDone a | isRxDone a => cases ht; exact congrArg Host.Outcome.next (State.checkHandle_withActive a rfl)
  | rxCollect => exact execRxCollect_withActive c ht
  | rxReadByte a => cases ht; exact congrArg Host.Outcome.next (State.checkHeld_withActive a (s.readHeld_withActive c a))
  | rxFree a => cases ht; exact congrArg Host.Outcome.next (State.checkHeld_withActive a rfl)

end Sys2Proof.Machine
end

section
/-! PROOFS. The engines' turns do the same whatever ACTIVE is (45_consumer_control.md R300); the statement about the
control commands is put together from this and the commands' half. -/

namespace Sys2Proof.Machine

section
variable (s : State) (c : Bool) (p : PktId) (b : Byte)

/-! ### The transmit engine -/

theorem State.flagsOf_withActive : (s.withActive c).flagsOf p = s.flagsOf p := by cases p <;> rfl

theorem State.lengthOf_withActive : (s.withActive c).lengthOf p = s.lengthOf p := by cases p <;> rfl

theorem State.txIdle_withActive : (s.withActive c).txIdle = s.txIdle.withActive c := by
  simp only [State.txIdle, State.withActive]
  cases s.txq <;> rfl

theorem State.txFlags_withActive : (s.withActive c).txFlags p = (s.txFlags p).withActive c := by
  rw [State.txFlags, State.flagsOf_withActive]
  rfl

theorem State.txIndexOrSize_withActive :
    (s.withActive c).txIndexOrSize p = (s.txIndexOrSize p).map (·.withActive c) := by
  cases p <;> exact ite_map_withActive rfl rfl

theorem State.txSizeLow_withActive : (s.withActive c).txSizeLow p = (s.txSizeLow p).withActive c := by
  rw [State.txSizeLow, State.lengthOf_withActive]
  rfl

theorem State.txSizeHigh_withActive : (s.withActive c).txSizeHigh p = (s.txSizeHigh p).withActive c := by
  rw [State.txSizeHigh, State.lengthOf_withActive]
  rfl

theorem State.txAdvance_withActive : (s.withActive c).txAdvance p = (s.txAdvance p).withActive c := by
  cases p <;> rfl

theorem State.txByte_withActive (k : Nat) : (s.withActive c).txByte p k = s.txByte p k := by
  cases p <;> rfl

theorem State.txData_withActive : (s.withActive c).txData p = (s.txData p).map (·.withActive c) := by
  have htx : (s.withActive c).tx = s.tx := rfl
  unfold State.txData
  rw [htx, State.txByte_withActive]
  cases s.txByte p s.tx.pos.toNat with
  | none => rfl
  | some b => exact ite_map_withActive rfl (congrArg some ((s.emit b).txAdvance_withActive c p))

theorem State.txEnd_withActive : (s.withActive c).txEnd p = (s.txEnd p).withActive c := by
  cases p <;> rfl

theorem State.txStep_withActive : (s.withActive c).txStep = s.txStep.map (·.withActive c) := by
  have htx : (s.withActive c).tx = s.tx := rfl
  unfold State.txStep
  rw [htx]
  cases s.tx.state with
  | idle => exact congrArg some (s.txIdle_withActive c)
  | sentStart => exact map_withActive (s.txFlags_withActive c)
  | sentFlags => exact bind_withActive (s.txIndexOrSize_withActive c)
  | sentIndex => exact map_withActive (s.txSizeLow_withActive c)
  | sentSize1 => exact map_withActive (s.txSizeHigh_withActive c)
  | sentSize2 | sentData => exact bind_withActive (s.txData_withActive c)
  | sentEsc => exact map_withActive ((s.emit s.tx.lit).txAdvance_withActive c)
  | sentAllData => exact map_withActive (s.txEnd_withActive c)

theorem State.txTurn_withActive : (s.withActive c).txTurn = s.txTurn.withActive c := by
  refine ite_withActive ?_ rfl
  rw [State.txStep_withActive]
  exact Option.getD_map (State.withActive · c) s s.txStep

/-! ### The receive engine -/

theorem State.rxAbort_withActive : (s.withActive c).rxAbort = s.rxAbort.withActive c := by
  match hp : s.rx.pkt with
  | none => rw [State.rxAbort_none hp, State.rxAbort_none (s := s.withActive c) hp]; rfl
  | some (.drv i) => rw [State.rxAbort_drv hp, State.rxAbort_drv (s := s.withActive c) hp]; rfl
  | some (.app g) => rw [State.rxAbort_app hp, State.rxAbort_app (s := s.withActive c) hp]; rfl

theorem State.rxBind_withActive : (s.withActive c).rxBind p = (s.rxBind p).withActive c := by
  cases p <;> rfl

theorem State.rxComplete_withActive : (s.withActive c).rxComplete p = (s.rxComplete p).withActive c := by
  cases p <;> rfl

theorem State.rxStart_withActive : (s.withActive c).rxStart b = (s.rxStart b).withActive c := ite_withActive rfl rfl

theorem State.rxTakeFlags_withActive : (s.withActive c).rxTakeFlags b = (s.rxTakeFlags b).withActive c := by
  cases hb : isAppOwned b with
  | true => rw [State.rxTakeFlags_app hb, State.rxTakeFlags_app hb]; rfl
  | false =>
    cases hq : s.freeq with
    | nil =>
      rw [State.rxTakeFlags_empty hb hq, State.rxTakeFlags_empty (s := s.withActive c) hb hq]
      exact State.rxAbort_withActive { s with rx := { s.rx with flags := recvFlags b } } c
    | cons i rest => rw [State.rxTakeFlags_head hb hq, State.rxTakeFlags_head (s := s.withActive c) hb hq]; rfl

theorem State.rxTakeIndex_withActive : (s.withActive c).rxTakeIndex b = (s.rxTakeIndex b).withActive c :=
  ite_withActive (s.rxAbort_withActive c) (s.rxBind_withActive c _)

theorem State.rxSizeHigh_withActive : (s.withActive c).rxSizeHigh p b = (s.rxSizeHigh p b).withActive c := by
  cases p <;>
    exact ite_withActive (State.rxAbort_withActive { s with rx := { s.rx with size := b ++ lowByte s.rx.size } } c) rfl

theorem State.rxWrite_withActive (k : Nat) :
    (s.withActive c).rxWrite p k b = (s.rxWrite p k b).map (·.withActive c) := by
  cases p with
  | drv i => rfl
  | app g => exact ite_map_withActive rfl rfl

theorem State.rxStore_withActive : (s.withActive c).rxStore p b = (s.rxStore p b).map (·.withActive c) := by
  unfold State.rxStore
  rw [State.lengthOf_withActive]
  extract_lets k
  rw [State.rxWrite_withActive]
  cases s.rxWrite p k.toNat b with
  | none => rfl
  | some s1 => cases p <;> rfl

theorem State.rxDataEsc_withActive : (s.withActive c).rxDataEsc p b = (s.rxDataEsc p b).map (·.withActive c) :=
  ite_map_withActive rfl (s.rxStore_withActive c p b)

theorem State.rxEnd_withActive : (s.withActive c).rxEnd p b = (s.rxEnd p b).withActive c :=
  congrArg (State.setRxState · .awaitStart) (ite_withActive (s.rxComplete_withActive c p) (s.rxAbort_withActive c))

theorem State.rxStep_withActive : (s.withActive c).rxStep b = (s.rxStep b).map (·.withActive c) := by
  have hrx : (s.withActive c).rx = s.rx := rfl
  unfold State.rxStep
  rw [hrx]
  cases s.rx.state with
  | awaitStart => exact congrArg some (s.rxStart_withActive c b)
  | awaitFlags => exact congrArg some (s.rxTakeFlags_withActive c b)
  | awaitIndex => exact congrArg some (s.rxTakeIndex_withActive c b)
  | awaitSize1 => rfl
  | awaitSize2 => exact map_withActive fun p => s.rxSizeHigh_withActive c p b
  | awaitDataEsc => exact bind_withActive fun p => s.rxDataEsc_withActive c p b
  | awaitData => exact bind_withActive fun p => s.rxStore_withActive c p b
  | awaitEnd => exact map_withActive fun p => s.rxEnd_withActive c p b

theorem State.rxTurn_withActive : (s.withActive c).rxTurn = s.rxTurn.withActive c := by
  cases hb : s.link.rxData with
  | none =>
    have hb' : (s.withActive c).link.rxData = none := hb
    simp only [State.rxTurn, hb, hb']
  | some b =>
    rw [State.rxTurn_presented hb, State.rxTurn_presented (s := s.withActive c) hb]
    exact (congrArg (Option.getD · _) (s.takeByte.rxStep_withActive c b)).trans
      (Option.getD_map (State.withActive · c) s (s.takeByte.rxStep b))

end

/-! ### The control commands -/

theorem bitOperand_mask : ∀ b : Byte, bitOperand (b &&& 0x01) = b.getLsbD 0 := by decide

/-- Settles O5: nothing but the two commands reads or writes ACTIVE, and those two do as R300 and R301 say. -/
theorem controlCommandsAnswer : Obligations.ControlCommandsAnswer := by
  refine ⟨fun i s t c hquery hset ht => exec_withActive c hquery hset ht,
    fun s c => ⟨s.txTurn_withActive c, s.rxTurn_withActive c⟩, fun s a b => ?_⟩
  refine ⟨decode_cmdWord (.setActive 0) a b, decode_cmdWord .queryActive a b, decode_cmdWord .nop a b,
    ⟨_, rfl, bitOperand_mask b, ?_, ⟨rfl, rfl, rfl, rfl, rfl, rfl, rfl, rfl⟩, rfl, rfl, rfl, rfl, rfl, rfl, rfl⟩,
    ⟨_, rfl, onlyResult_putResult s .ok _ 0 0⟩, ⟨_, rfl, onlyResult_putResult s .ok 0 0 0⟩⟩
  rw [← bitOperand_mask]
  rfl

end Sys2Proof.Machine
end

section
/-! PROOFS. Nothing faults (60_exceptions.md R320, R322): every command answers a next state, and of the agents
only the foreground can stop, at an access that is refused or is none of this block's (20_memory.md R81). -/

namespace Sys2Proof.Machine

/-! ### Every command answers -/

/-- Only START_OUTGOING and RX_COLLECT branch before they answer, each on whether a queue is empty. -/
theorem exec_answers (i : Instr) (s : State) : ∃ t, exec i s = .next t := by
  cases i with
  | startOutgoing usage =>
    cases hq : s.freeq with
    | nil => exact ⟨_, exec_startOutgoing_empty hq usage⟩
    | cons j rest => exact ⟨_, exec_startOutgoing_head hq usage⟩
  | rxCollect =>
    cases hq : s.rxq with
    | nil => exact ⟨_, execRxCollect_empty hq⟩
    | cons j rest => exact ⟨_, execRxCollect_head hq⟩
  | nop | appendByte | appendInfer | flush | queueTx | armRx | isTxDone | isRxDone | release | rxReadByte | rxFree
  | setActive | queryActive => exact ⟨_, rfl⟩

theorem State.runCommand_answers (s : State) (w : Word) : ∃ t, s.runCommand w = .next t := by
  unfold State.runCommand
  split
  · next i _ => exact exec_answers i s
  · exact ⟨_, rfl⟩

/-! ### Where the foreground stops -/

/-- The access begins a word of the window at `base`, and is as long as one (R81). -/
def IsWindowWord (base addr size : Nat) : Prop :=
  size = 4 ∧ base ≤ addr ∧ addr < base + 32 ∧ (addr - base) % 4 = 0

/-- The access is one the window at `base` gives no meaning: a register access that is no word of it, or a byte access
in it (R81). -/
def HostOp.StopsAt (base : Nat) (op : HostOp) : Prop :=
  (∃ addr size v, (op = .regWrite addr size v ∨ op = .regRead addr size) ∧ ¬IsWindowWord base addr size) ∨
    ∃ a b, (op = .poke a b ∨ op = .peek a) ∧ base ≤ a ∧ a < base + 32

theorem State.writeReg_answers (s : State) (off : Nat) (v : Word) : ∃ t, s.writeReg off v = .next t := by
  unfold State.writeReg
  split
  · exact State.runCommand_answers _ v
  · split
    · exact ⟨_, rfl⟩
    · split <;> exact ⟨_, rfl⟩

/-- A word of the window is at a register's offset. -/
theorem IsWindowWord.exists_offset {base addr size : Nat} (h : IsWindowWord base addr size) :
    size = 4 ∧ ∃ off, (off < 32 ∧ off % 4 = 0) ∧ addr = base + off := by
  obtain ⟨hsize, hle, hlt, halign⟩ := h
  exact ⟨hsize, addr - base, ⟨by omega, halign⟩, by omega⟩

theorem State.regWrite_answers {s : State} {addr size : Nat} (h : IsWindowWord s.cfg.regBase addr size) (v : Word) :
    ∃ t, s.regWrite addr size v = .next t := by
  obtain ⟨rfl, off, hoff, rfl⟩ := h.exists_offset
  rw [s.regWrite_window hoff]
  exact s.writeReg_answers off v

theorem State.regRead_answers {s : State} {addr size : Nat} (h : IsWindowWord s.cfg.regBase addr size) :
    ∃ t, s.regRead addr size = .next t := by
  obtain ⟨rfl, off, hoff, rfl⟩ := h.exists_offset
  exact ⟨_, s.regRead_window hoff⟩

theorem State.inWindow_iff {s : State} {a : Nat} :
    s.inWindow a = true ↔ s.cfg.regBase ≤ a ∧ a < s.cfg.regBase + 32 := by
  simp [State.inWindow]

/-- An access answers a next state, or the window gives it no meaning. -/
theorem State.access_answers (s : State) (op : HostOp) :
    (∃ t, s.access op = .next t) ∨ op.StopsAt s.cfg.regBase := by
  cases op with
  | regWrite addr size v =>
    by_cases hword : IsWindowWord s.cfg.regBase addr size
    · exact .inl (State.regWrite_answers hword v)
    · exact .inr (.inl ⟨addr, size, v, .inl rfl, hword⟩)
  | regRead addr size =>
    by_cases hword : IsWindowWord s.cfg.regBase addr size
    · exact .inl (State.regRead_answers hword)
    · exact .inr (.inl ⟨addr, size, 0, .inr rfl, hword⟩)
  | poke a b =>
    cases hwin : s.inWindow a with
    | false => exact .inl ⟨_, State.poke_eq_next.2 ⟨hwin, rfl⟩⟩
    | true => exact .inr (.inr ⟨a, b, .inl rfl, State.inWindow_iff.1 hwin⟩)
  | peek a =>
    cases hwin : s.inWindow a with
    | false => exact .inl ⟨_, State.peek_eq_next.2 ⟨hwin, rfl⟩⟩
    | true => exact .inr (.inr ⟨a, 0, .inr rfl, State.inWindow_iff.1 hwin⟩)
  | pollTx h | pollRx h => exact .inl (State.runCommand_answers _ _)
  | pollTxRead h | pollRxRead h => exact .inl ⟨_, rfl⟩

/-- The foreground is at an access the window gives no meaning: its next one, with no CMD write outstanding (R43). -/
def State.ForegroundStops (s : State) : Prop :=
  s.fg.cmdPort = none ∧ ∃ op rest, s.fg.ops = op :: rest ∧ op.StopsAt s.cfg.regBase

theorem State.foregroundStops_afterDraw {s : State} : s.afterDraw.ForegroundStops ↔ s.ForegroundStops := by
  simp only [State.ForegroundStops, State.afterDraw_fg, State.afterDraw_cfg]

/-- A turn of the foreground runs the outstanding command, does nothing, or makes its next access. -/
theorem State.fgTurn_answers (s : State) : (∃ t, s.fgTurn = .next t) ∨ s.ForegroundStops := by
  cases hcmd : s.fg.cmdPort with
  | some w =>
    have hturn : s.fgTurn = s.runCommand w := by simp only [State.fgTurn, hcmd]
    exact .inl (hturn ▸ s.runCommand_answers w)
  | none =>
    cases hops : s.fg.ops with
    | nil => exact .inl ⟨s, by simp only [State.fgTurn, hcmd, hops]⟩
    | cons op rest =>
      rw [State.fgTurn_access hcmd hops]
      exact (State.access_answers _ op).imp_right fun hstop => ⟨hcmd, op, rest, hops, hstop⟩

/-- A turn of any agent but the foreground answers, a refused host access of an engine included (R73, R74). -/
theorem State.turn_answers (s : State) (d : Draw) : (∃ t, s.turn d = .next t) ∨ d = .fg ∧ s.ForegroundStops := by
  cases d with
  | fg => exact s.fgTurn_answers.imp_right fun hstop => ⟨rfl, hstop⟩
  | rxe | txe | linkByte | linkReady | reset => exact .inl ⟨_, rfl⟩

/-- Settles O21: of the agents only the foreground stops, and its commands do not. -/
theorem nothingFaults : Obligations.NothingFaults :=
  ⟨exec_answers, fun s => (s.afterDraw.turn_answers s.nextDraw).imp_right fun ⟨hd, hstop⟩ =>
    ⟨hd, State.foregroundStops_afterDraw.1 hstop⟩⟩

end Sys2Proof.Machine
end

section
/-! PROOFS. What no engine's step touches, a run that has ended (70_reset_and_hazards.md R367), and the deadlock of a held
APPEND (R357): a state of the pool that no move but the receive consumer's leaves. -/

namespace Sys2Proof.Machine

/-! ### What no engine touches -/

theorem SameOutside.refl (s : State) : SameOutside s s := ⟨rfl, rfl, rfl, rfl, rfl, rfl, rfl⟩

theorem SameOutside.ite {c : Prop} [Decidable c] {s t u : State} (ht : SameOutside s t) (hu : SameOutside s u) :
    SameOutside s (if c then t else u) := by
  split
  · exact ht
  · exact hu

theorem State.sameOutside_txEnd (s : State) (p : PktId) : SameOutside s (s.txEnd p) := by
  cases p <;> exact .refl s

theorem State.txStep_sameOutside {s t : State} (ht : s.txStep = some t) : SameOutside s t := by
  unfold State.txStep at ht
  cases hst : s.tx.state <;> simp only [hst, Option.some.injEq, Option.map_eq_some_iff, Option.bind_eq_some_iff] at ht
  case idle =>
    subst ht
    unfold State.txIdle
    split <;> exact .refl s
  case sentFlags =>
    obtain ⟨p, -, ht⟩ := ht
    unfold State.txIndexOrSize at ht
    split at ht
    · obtain ⟨x, -, rfl⟩ := Option.map_eq_some_iff.1 ht
      exact .refl s
    · cases ht; exact .refl s
  case sentSize2 | sentData =>
    obtain ⟨p, -, ht⟩ := ht
    obtain ⟨b, -, ⟨-, rfl⟩ | ⟨-, rfl⟩⟩ := State.txData_eq_some ht <;> exact .refl s
  case sentAllData =>
    obtain ⟨p, -, rfl⟩ := ht
    exact s.sameOutside_txEnd p
  case sentStart | sentIndex | sentSize1 | sentEsc =>
    obtain ⟨p, -, rfl⟩ := ht
    exact .refl s

theorem State.sameOutside_txTurn (s : State) : SameOutside s s.txTurn := by
  obtain eq | ⟨-, -, hstep⟩ := s.txTurn_cases
  · rw [eq]; exact .refl s
  · exact State.txStep_sameOutside hstep

/-- RXE's registers may have changed before the abort. -/
theorem State.sameOutside_rxAbort (s : State) (x : RxEngine) : SameOutside s (State.rxAbort { s with rx := x }) := by
  obtain ⟨d, a, q, eq⟩ := State.rxAbort_eq { s with rx := x }
  rw [eq]
  exact .refl s

theorem State.sameOutside_rxTakeFlags (s : State) (b : Byte) : SameOutside s (s.rxTakeFlags b) := by
  cases hb : isAppOwned b with
  | true => rw [State.rxTakeFlags_app hb]; exact .refl s
  | false =>
    cases hq : s.freeq with
    | nil => rw [State.rxTakeFlags_empty hb hq]; exact s.sameOutside_rxAbort _
    | cons i rest => rw [State.rxTakeFlags_head hb hq]; exact .refl s

theorem State.rxStore_sameOutside {s t : State} {p : PktId} {b : Byte} (ht : s.rxStore p b = some t) :
    SameOutside s t := by
  obtain ⟨s1, hw, rfl⟩ := State.rxStore_eq_some ht
  cases p with
  | drv i => cases hw; exact .refl s
  | app g =>
    obtain ⟨-, rfl⟩ := State.memWrite_eq_some.1 hw
    exact .refl s

theorem State.sameOutside_rxEnd (s : State) (p : PktId) (b : Byte) : SameOutside s (s.rxEnd p b) := by
  refine SameOutside.ite (c := b = markEND) ?_ (s.sameOutside_rxAbort s.rx)
  cases p <;> exact .refl s

theorem State.rxStep_sameOutside {s t : State} {b : Byte} (ht : s.rxStep b = some t) : SameOutside s t := by
  unfold State.rxStep at ht
  cases hst : s.rx.state <;> simp only [hst, Option.some.injEq, Option.map_eq_some_iff, Option.bind_eq_some_iff] at ht
  case awaitStart => exact ht ▸ .ite (.refl s) (.refl s)
  case awaitFlags => exact ht ▸ s.sameOutside_rxTakeFlags b
  case awaitIndex => exact ht ▸ .ite (s.sameOutside_rxAbort s.rx) (.refl s)
  case awaitSize1 => exact ht ▸ .refl s
  case awaitSize2 =>
    obtain ⟨p, -, rfl⟩ := ht
    exact .ite (s.sameOutside_rxAbort _) (.refl s)
  case awaitDataEsc =>
    obtain ⟨p, -, ht⟩ := ht
    unfold State.rxDataEsc at ht
    split at ht
    · cases ht; exact .refl s
    · exact State.rxStore_sameOutside ht
  case awaitData =>
    obtain ⟨p, -, ht⟩ := ht
    exact State.rxStore_sameOutside ht
  case awaitEnd =>
    obtain ⟨p, -, rfl⟩ := ht
    exact s.sameOutside_rxEnd p b

theorem State.sameOutside_rxTurn (s : State) : SameOutside s s.rxTurn := by
  obtain eq | ⟨b, -, hstep⟩ := s.rxTurn_cases
  · rw [eq]; exact .refl s
  · exact State.rxStep_sameOutside (s := s.takeByte) hstep

/-! ### A run that has ended (R367) -/

theorem State.fgTurn_done {s : State} (hcmd : s.fg.cmdPort = none) (hops : s.fg.ops = []) : s.fgTurn = .next s := by
  simp only [State.fgTurn, hcmd, hops]

theorem State.rxTurn_idle {s : State} (hdata : s.link.rxData = none) : s.rxTurn = s := by
  simp only [State.rxTurn, hdata]

/-- TXE has no step without a byte slot and TXIE (R190). -/
theorem State.txTurn_off {s : State} (hoff : ¬(s.link.txReady = true ∧ s.txie = true)) : s.txTurn = s := if_neg hoff

/-- A turn of TXE with a byte slot and TXIE is its step (R190). -/
theorem State.txTurn_on {s t : State} (hready : s.link.txReady = true) (hie : s.txie = true)
    (hstep : s.txStep = some t) : s.txTurn = t := by
  rw [State.txTurn, if_pos ⟨hready, hie⟩, hstep, Option.getD_some]

theorem State.linkPresent_done {s : State} (hall : s.link.incoming = []) : s.linkPresent = s := by
  unfold State.linkPresent
  split
  · next hcons => rw [hall] at hcons; cases hcons
  · rfl

/-- Settles O52: no agent but LINK's level has a step left. -/
theorem endedRunsAreQuiet : Obligations.EndedRunsAreQuiet := by
  rintro s ⟨hcmd, hops, hdata, hall, -, -, hie⟩
  refine ⟨fun d hd => ?_, fun r => rfl⟩
  obtain rfl | rfl | rfl | rfl := hd
  · exact State.fgTurn_done hcmd hops
  · exact congrArg _ (State.rxTurn_idle hdata)
  · exact congrArg _ (State.txTurn_off (by simp [hie]))
  · exact congrArg _ (State.linkPresent_done hall)

/-! ### The hold (R163) -/

/-- The word is an APPEND (R164, R165). -/
def IsAppend (w : Word) : Prop := ∃ b, decode w = .ok (.appendByte b) ∨ decode w = .ok (.appendInfer b)

/-- An APPEND holds with no open fragment and the pool exhausted. -/
theorem State.holds_iff {s : State} {w : Word} : s.holds w = true ↔ IsAppend w ∧ s.bld.pkt = none ∧ s.freeq = [] := by
  unfold State.holds IsAppend
  split
  · next b hw => simp [hw]
  · next b hw => simp [hw]
  · next hbyte hinfer =>
    refine iff_of_false (by simp) ?_
    rintro ⟨⟨b, hw | hw⟩, -⟩
    · exact hbyte b hw
    · exact hinfer b hw

/-- A held command changes nothing and writes no result. -/
theorem State.runCommand_of_holds {s : State} {w : Word} (h : s.holds w = true) : s.runCommand w = .next s := by
  obtain ⟨⟨b, hw | hw⟩, hb, hq⟩ := State.holds_iff.1 h
  · rw [State.runCommand, hw]
    exact congrArg Host.Outcome.next (State.append_held hb hq b)
  · rw [State.runCommand, hw]
    refine congrArg Host.Outcome.next ?_
    rw [State.infer_held hq]
    exact State.append_held hb hq b

/-! ### The deadlock (R357) -/

/-- No packet is free or open, and none is where an engine's step could free it. -/
structure Pool.Stranded (P : Pool) : Prop where
  free  : P.free = []
  build : P.build = none
  txq   : ∀ i, .drv i ∉ P.txq
  txing : ∀ i, P.txing ≠ some (.drv i)
  rxing : ∀ i, P.rxing ≠ some (.drv i)

/-- Of the moves none but the consumer's would free a packet: those left are of application packets. -/
theorem Pool.Stranded.of_moves {tx : TxState} {rx : RxState} {P Q : Pool} (h : P.Stranded) (m : P.Moves tx rx Q) :
    Q.Stranded := by
  have noHead : ∀ {i rest}, P.free ≠ i :: rest := by simp [h.free]
  have noOpen : ∀ {i}, P.build ≠ some i := by simp [h.build]
  cases m with
  | stay => exact h
  | openHead _ hq | reopen _ hq | fillHead _ hq | bindHead _ hq => exact absurd hq noHead
  | handOver hb => exact absurd hb noOpen
  | sentDrv hp => exact absurd hp (h.txing _)
  | abortDrv hp | completeDrv hp => exact absurd hp (h.rxing _)
  | queueApp => exact { h with txq := fun i => by simp [h.txq i] }
  | startTx _ hq =>
    have head : ∀ i, .drv i ∉ P.txq := h.txq
    simp only [hq, List.mem_cons, not_or] at head
    exact { h with txq := fun i => (head i).2, txing := fun i e => (head i).1 (Option.some.inj e).symm }
  | sentApp => exact { h with txing := fun i => by simp }
  | bindApp => exact { h with rxing := fun i => by simp }
  | dropApp => exact { h with rxing := fun i => by simp }

theorem State.deadlocked_iff {s : State} :
    s.deadlocked ↔ (∃ w, s.fg.cmdPort = some w ∧ IsAppend w) ∧ s.pool.Stranded := by
  have hdrv : ∀ o : Option PktId, o.bind PktId.drvSlot = none ↔ ∀ i, o ≠ some (.drv i) := fun o => by
    simp only [Option.eq_none_iff_forall_ne_some, ne_eq, bind_drvSlot_eq]
  have htxq : s.txq.filterMap PktId.drvSlot = [] ↔ ∀ i, .drv i ∉ s.txq := by
    simp only [List.eq_nil_iff_forall_not_mem, mem_filterMap_drvSlot]
  simp only [State.deadlocked, State.holds_iff, htxq, hdrv]
  constructor
  · rintro ⟨⟨w, hcmd, happend, hb, hq⟩, txq, txing, rxing⟩
    exact ⟨⟨w, hcmd, happend⟩, hq, hb, txq, txing, rxing⟩
  · rintro ⟨⟨w, hcmd, happend⟩, hq, hb, txq, txing, rxing⟩
    exact ⟨⟨w, hcmd, happend, hb, hq⟩, txq, txing, rxing⟩

/-- The engines leave the CMD write outstanding and write no result. -/
theorem State.deadlocked_of_moves {s t : State} (h : s.deadlocked) (m : s.Moves t) (out : SameOutside s t) :
    t.deadlocked ∧ t.regs = s.regs := by
  obtain ⟨hcmd, stranded⟩ := State.deadlocked_iff.1 h
  obtain ⟨-, -, regs, fg, -⟩ := out
  exact ⟨State.deadlocked_iff.2 ⟨fg ▸ hcmd, stranded.of_moves m⟩, regs⟩

theorem State.sameOutside_linkPresent (s : State) : SameOutside s s.linkPresent := by
  unfold State.linkPresent
  split <;> exact .refl s

theorem State.turn_deadlocked {s t : State} {d : Draw} (h : s.deadlocked) (hd : d ≠ .reset)
    (ht : s.turn d = .next t) : t.deadlocked ∧ t.regs = s.regs := by
  cases d with
  | fg =>
    have ⟨⟨w, hcmd, hholds⟩, _⟩ := h
    simp only [State.turn, State.fgTurn, hcmd, State.runCommand_of_holds hholds] at ht
    cases ht
    exact ⟨h, rfl⟩
  | rxe => cases ht; exact State.deadlocked_of_moves h s.moves_rxTurn s.sameOutside_rxTurn
  | txe => cases ht; exact State.deadlocked_of_moves h s.moves_txTurn s.sameOutside_txTurn
  | linkByte =>
    cases ht
    exact State.deadlocked_of_moves h (.of_pool s.pool_linkPresent .stay) s.sameOutside_linkPresent
  | linkReady r => cases ht; exact ⟨h, rfl⟩
  | reset => exact absurd rfl hd

/-- Settles O53: the foreground's command is held, and the engines make moves that leave the pool stranded. -/
theorem deadlockIsForever : Obligations.DeadlockIsForever := by
  intro s t h hd ht
  obtain ⟨o, ho⟩ := s.afterDraw_eq
  rw [step, ho] at ht
  exact State.turn_deadlocked (s := { s with oracle := o }) h hd ht

end Sys2Proof.Machine
end

section
/-! PROOFS. Where the launch memory admits every host address, each engine has a step whenever it is offered one
(20_memory.md R73, R74), and a step of TXE brings the END of the packet in flight nearer (42_tx_fsm.md R190 to R202). -/

namespace Sys2Proof.Machine

/-! ### All of host memory admitted -/

/-- The launch memory admits every host address (R76). -/
def State.AdmitsAll (s : State) : Prop := ∀ a < 2 ^ s.cfg.addrW, s.admits a = true

/-- What is admitted is a constant of the launch. -/
theorem State.AdmitsAll.of_cfg {s t : State} (h : s.AdmitsAll) (hcfg : t.cfg = s.cfg) : t.AdmitsAll := by
  simpa only [State.AdmitsAll, State.admits, State.inWindow, hcfg] using h

theorem State.AdmitsAll.hostAddr {s : State} (h : s.AdmitsAll) (buffer : Word) (k : Nat) :
    s.admits (s.hostAddr buffer k) = true := h _ (Nat.mod_lt _ (Nat.two_pow_pos _))

theorem State.AdmitsAll.exists_txByte {s : State} (h : s.AdmitsAll) (p : PktId) (k : Nat) :
    ∃ b, s.txByte p k = some b := by
  cases p with
  | drv i => exact ⟨_, rfl⟩
  | app g => exact ⟨_, State.memRead_eq_some.2 ⟨h.hostAddr _ k, rfl⟩⟩

theorem State.AdmitsAll.exists_rxStore {s : State} (h : s.AdmitsAll) (p : PktId) (b : Byte) :
    ∃ t, s.rxStore p b = some t := by
  cases p with
  | drv i => exact ⟨_, rfl⟩
  | app g => exact ⟨_, State.rxStore_app_admitted (h.hostAddr _ _) b⟩

/-! ### The receive engine -/

/-- RXE has a step on every byte: in the states from AWAIT_SIZE_2 on it has a packet bound (R235). -/
theorem State.Ok.exists_rxStep {s : State} (h : s.Ok) (admits : s.AdmitsAll) (b : Byte) : ∃ t, s.rxStep b = some t := by
  cases hp : s.rx.pkt with
  | none =>
    obtain hst | hst | hst := h.rxUnbound.2 hp
    · exact ⟨_, State.rxStep_awaitStart hst b⟩
    · exact ⟨_, State.rxStep_awaitFlags hst b⟩
    · exact ⟨_, State.rxStep_awaitIndex hst b⟩
  | some p =>
    cases hst : s.rx.state with
    | awaitStart => exact ⟨_, State.rxStep_awaitStart hst b⟩
    | awaitFlags => exact ⟨_, State.rxStep_awaitFlags hst b⟩
    | awaitIndex => exact ⟨_, State.rxStep_awaitIndex hst b⟩
    | awaitSize1 => exact ⟨_, State.rxStep_awaitSize1 hst b⟩
    | awaitSize2 => exact ⟨_, State.rxStep_awaitSize2 hst hp b⟩
    | awaitDataEsc =>
      by_cases hb : b = markESCAPE
      · exact ⟨_, hb ▸ State.rxStep_escape hp hst⟩
      · rw [State.rxStep_data hp (.inr ⟨hst, hb⟩)]
        exact admits.exists_rxStore p b
    | awaitData =>
      rw [State.rxStep_data hp (.inl hst)]
      exact admits.exists_rxStore p b
    | awaitEnd => exact ⟨_, State.rxStep_awaitEnd hst hp b⟩

/-- The byte presented is consumed (R327). -/
theorem State.Ok.rxTurn_consumes {s : State} {b : Byte} (h : s.Ok) (admits : s.AdmitsAll)
    (hb : s.link.rxData = some b) : s.rxTurn.link.rxData = none := by
  obtain ⟨t, hstep⟩ := h.takeByte.exists_rxStep (admits.of_cfg rfl) b
  obtain ⟨link, -⟩ := State.rxStep_leftByRx hstep
  rw [State.rxTurn_presented hb, hstep, Option.getD_some, link]
  rfl

/-- Only RXE takes the byte presented. -/
theorem State.turn_keepsByte {s t : State} {d : Draw} {b : Byte} (hb : s.link.rxData = some b)
    (ht : s.turn d = .next t) (hd : d ≠ .rxe) : t.link.rxData = some b := by
  cases d with
  | fg => rw [State.fgTurn_link ht, hb]
  | rxe => exact absurd rfl hd
  | txe =>
    cases ht
    obtain eq | ⟨-, -, hstep⟩ := s.txTurn_cases
    · rw [eq, hb]
    · obtain same | ⟨c, sent⟩ := State.txStep_link hstep
      · rw [same, hb]
      · rw [sent]; exact hb
  | linkByte =>
    cases ht
    simp only [State.linkPresent, hb]
  | linkReady r => cases ht; exact hb
  | reset => cases ht; exact hb

/-! ### The transmit engine -/

/-- A bound on the steps from TXE's registers to the END of a packet of `n` bytes: two for each payload byte to come,
and those of the header. -/
def TxEngine.toEnd (x : TxEngine) (n : Half) : Nat :=
  2 * (n.toNat - x.pos.toNat) +
    match x.state with
    | .idle => 0
    | .sentStart => 5
    | .sentFlags => 4
    | .sentIndex => 3
    | .sentSize1 => 2
    | .sentSize2 => 1
    | .sentData => 1
    | .sentEsc => 0
    | .sentAllData => 0

/-- A payload byte sent as it is, or after its ESCAPE (R196, R198, R201). -/
theorem TxEngine.toEnd_advanced {x : TxEngine} {n : Half} (hpos : x.pos.toNat < n.toNat) :
    (x.advanced n).toEnd n < 2 * (n.toNat - x.pos.toNat) := by
  have hnext := toNat_add_one_of_lt hpos (Nat.le_of_lt_succ n.isLt)
  unfold TxEngine.toEnd TxEngine.advanced
  by_cases hend : x.pos + 1 = n
  · simp only [if_pos hend, hnext]; omega
  · simp only [if_neg hend, hnext]; omega

/-- A step that reads the payload byte at TX_POS (R196, R197). -/
theorem State.AdmitsAll.txData_nearer {s : State} {p : PktId} (admits : s.AdmitsAll) (hp : s.tx.pkt = some p)
    (hpos : s.tx.pos.toNat < (s.lengthOf p).toNat) :
    ∃ b x, s.txData p = some (s.sent [b] false x) ∧ x.pkt = some p ∧
      x.toEnd (s.lengthOf p) < 2 * ((s.lengthOf p).toNat - s.tx.pos.toNat) + 1 := by
  obtain ⟨b, hb⟩ := admits.exists_txByte p s.tx.pos.toNat
  cases hr : isReserved b with
  | true => exact ⟨_, _, State.txData_marker hb hr, hp, by simp [TxEngine.toEnd]⟩
  | false => exact ⟨_, _, State.txData_plain hb hr, hp, Nat.lt_succ_of_lt (TxEngine.toEnd_advanced hpos)⟩

/-- With `p` in flight TXE has a step: END, or one that brings END nearer. -/
theorem State.Ok.txStep_nearer {s : State} {p : PktId} (h : s.Ok) (admits : s.AdmitsAll) (hp : s.tx.pkt = some p) :
    s.tx.state = .sentAllData ∨ ∃ b x, s.txStep = some (s.sent [b] false x) ∧ x.pkt = some p ∧
      x.toEnd (s.lengthOf p) < s.tx.toEnd (s.lengthOf p) := by
  have hphase := (h.sending p hp).1
  unfold State.txPhase at hphase
  rw [TxEngine.toEnd.eq_def s.tx]
  cases hst : s.tx.state <;> simp only [hst, decide_eq_true_eq, Bool.and_eq_true, Bool.false_eq_true] at hphase
  case sentStart => exact .inr ⟨_, _, State.txStep_sentStart hp hst, hp, by simp [TxEngine.toEnd]⟩
  case sentFlags =>
    have howned := h.isAppOwned_eq (h.located.hasSlot_of_tx hp)
    cases p with
    | drv i => exact .inr ⟨_, _, State.txStep_sentFlags_size hp hst howned, hp, by simp [TxEngine.toEnd]⟩
    | app g => exact .inr ⟨_, _, State.txStep_sentFlags_index hp hst howned, hp, by simp [TxEngine.toEnd]⟩
  case sentIndex => exact .inr ⟨_, _, State.txStep_sentIndex hp hst, hp, by simp [TxEngine.toEnd]⟩
  case sentSize1 =>
    refine .inr ⟨_, _, State.txStep_sentSize1 hp hst, hp, ?_⟩
    by_cases hlen : s.lengthOf p = 0
    · rw [if_pos hlen]; simp [TxEngine.toEnd]
    · rw [if_neg hlen]; simp [TxEngine.toEnd]
  case sentSize2 =>
    rw [State.txStep_data hp (.inl hst)]
    exact .inr (admits.txData_nearer hp (by rw [hphase.1]; exact hphase.2))
  case sentData =>
    rw [State.txStep_data hp (.inr hst)]
    exact .inr (admits.txData_nearer hp hphase)
  case sentEsc => exact .inr ⟨_, _, State.txStep_sentEsc hp hst, hp, TxEngine.toEnd_advanced hphase.1⟩
  case sentAllData => exact .inl rfl

end Sys2Proof.Machine
end

section
/-! PROOFS. Progress (70_reset_and_hazards.md R363): a rank of each packet on its way out that no turn raises and a step
of TXE lowers until the packet's END, and with fairness the END of every packet and the consumption of every byte. -/

namespace Sys2Proof.Machine

/-! ### The packets on their way out -/

/-- The packet in flight, then those in TXQ: the order in which their ENDs are sent. -/
def State.outgoing (s : State) : List PktId := s.tx.pkt.toList ++ s.txq

theorem State.mem_outgoing {s : State} {p : PktId} : p ∈ s.outgoing ↔ p ∈ s.txq ∨ s.tx.pkt = some p := by
  rw [State.outgoing, List.mem_append, Option.mem_toList, Or.comm]

theorem State.outgoing_idle {s : State} (hp : s.tx.pkt = none) : s.outgoing = s.txq := by
  rw [State.outgoing, hp]; rfl

theorem State.outgoing_busy {s : State} {q : PktId} (hq : s.tx.pkt = some q) : s.outgoing = q :: s.txq := by
  rw [State.outgoing, hq]; rfl

/-- A bound on the steps of TXE up to the next END: in IDLE, more than any packet in flight needs, whose length is below
`2 ^ 16`. -/
def State.toEnd (s : State) : Nat :=
  match s.tx.pkt with
  | some q => s.tx.toEnd (s.lengthOf q)
  | none => 2 ^ 17 + 5

theorem State.toEnd_idle {s : State} (hp : s.tx.pkt = none) : s.toEnd = 2 ^ 17 + 5 := by
  rw [State.toEnd, hp]

theorem State.toEnd_busy {s : State} {q : PktId} (hq : s.tx.pkt = some q) : s.toEnd = s.tx.toEnd (s.lengthOf q) := by
  rw [State.toEnd, hq]

/-- The steps up to the END of `p`: the packets before it, each counted as the longest, and those to the next END. -/
def State.rank (s : State) (p : PktId) : Nat := s.outgoing.idxOf p * (2 ^ 17 + 6) + s.toEnd

/-- TXE is enabled while a packet is on its way (R203). -/
theorem State.Ok.txie_of_outgoing {s : State} {p : PktId} (h : s.Ok) (hp : p ∈ s.outgoing) : s.txie = true := by
  obtain hq | hp := State.mem_outgoing.1 hp
  · exact h.txie (.inr (List.ne_nil_of_mem hq))
  · exact h.txie (.inl fun hidle => by simp [h.txUnbound.1 hidle] at hp)

/-! ### Turns of the other agents -/

/-- A move that leaves TXE the packet it has takes none from TXQ. -/
theorem Pool.Moves.txq_grows {tx : TxState} {rx : RxState} {P Q : Pool} (m : P.Moves tx rx Q)
    (htx : tx = .idle → P.txing = none) (hsame : Q.txing = P.txing) : P.txq <+: Q.txq := by
  cases m with
  | startTx hst => simp [htx hst] at hsame
  | handOver | reopen | fillHead | queueApp => exact List.prefix_append _ _
  | stay | openHead | sentDrv | sentApp | bindHead | bindApp | abortDrv | completeDrv | dropApp =>
    exact List.prefix_refl _

/-- A command leaves TXE alone, and TXQ grows at its tail (R304, R140). -/
theorem State.Ok.exec_txq {c : Instr} {s t : State} (h : s.Ok) (ht : Machine.exec c s = .next t) :
    t.tx = s.tx ∧ s.txq <+: t.txq := by
  have outside := exec_outside ht
  simp only [State.outside, Prod.mk.injEq] at outside
  obtain ⟨tx, -⟩ := outside
  refine ⟨tx, ?_⟩
  obtain m | ⟨-, i, rest, -, eq⟩ | ⟨-, i, eq⟩ := exec_moves ht
  · exact m.txq_grows h.txUnbound.1 (congrArg TxEngine.pkt tx)
  · exact ⟨[], (List.append_nil _).trans (congrArg Pool.txq eq).symm⟩
  · exact ⟨[], (List.append_nil _).trans (congrArg Pool.txq eq).symm⟩

theorem State.Ok.fgTurn_txq {s t : State} (h : s.Ok) (ht : s.fgTurn = .next t) : t.tx = s.tx ∧ s.txq <+: t.txq := by
  obtain ⟨w, f, -, hrun⟩ | ⟨a, b, rest, -, -, rfl⟩ | ⟨f, r, o, rfl⟩ := State.fgTurn_cases ht
  · unfold State.runCommand at hrun
    split at hrun
    · exact (h.setFg f).exec_txq hrun
    · cases hrun; exact ⟨rfl, List.prefix_refl _⟩
  · obtain ⟨m, o, eq⟩ := State.hostWrite_eq { s with fg := { s.fg with ops := rest } } a b
    rw [eq]
    exact ⟨rfl, List.prefix_refl _⟩
  · exact ⟨rfl, List.prefix_refl _⟩

theorem State.Ok.rxTurn_txq {s : State} (h : s.Ok) : s.rxTurn.tx = s.tx ∧ s.txq <+: s.rxTurn.txq := by
  have tx : s.rxTurn.tx = s.tx := by
    obtain eq | ⟨b, -, hstep⟩ := s.rxTurn_cases
    · rw [eq]
    · exact (h.takeByte.rxStep_keptByRx hstep).1
  exact ⟨tx, s.moves_rxTurn.txq_grows h.txUnbound.1 (congrArg TxEngine.pkt tx)⟩

theorem State.Ok.turn_txq {s t : State} {d : Draw} (h : s.Ok) (ht : s.turn d = .next t) (htxe : d ≠ .txe)
    (hreset : d ≠ .reset) : t.tx = s.tx ∧ s.txq <+: t.txq := by
  cases d with
  | fg => exact h.fgTurn_txq ht
  | rxe => cases ht; exact h.rxTurn_txq
  | txe => exact absurd rfl htxe
  | linkByte =>
    cases ht
    unfold State.linkPresent
    split <;> exact ⟨rfl, List.prefix_refl _⟩
  | linkReady r => cases ht; exact ⟨rfl, List.prefix_refl _⟩
  | reset => exact absurd rfl hreset

/-- No agent but TXE takes a packet off its way or moves it back. -/
theorem State.Ok.turn_rank {s t : State} {d : Draw} {p : PktId} (h : s.Ok) (ht : s.turn d = .next t) (htxe : d ≠ .txe)
    (hreset : d ≠ .reset) (hp : p ∈ s.outgoing) : p ∈ t.outgoing ∧ t.rank p = s.rank p := by
  obtain ⟨tx, l, txq⟩ := h.turn_txq ht htxe hreset
  have grown : t.outgoing = s.outgoing ++ l := by rw [State.outgoing, tx, ← txq, State.outgoing, List.append_assoc]
  have toEnd : t.toEnd = s.toEnd := by
    cases hq : s.tx.pkt with
    | none => rw [State.toEnd_idle hq, State.toEnd_idle (tx ▸ hq)]
    | some q => rw [State.toEnd_busy hq, State.toEnd_busy (tx ▸ hq), tx, (h.turn_sameRecord hq ht htxe hreset).lengthOf]
  rw [State.rank, State.rank, toEnd, grown, List.idxOf_append_of_mem hp]
  exact ⟨List.mem_append_left l hp, rfl⟩

/-! ### Steps of TXE -/

/-- The step of TXE at `s` sends the END of `p`. -/
def State.Ends (s : State) (p : PktId) : Prop := s.tx.pkt = some p ∧ s.tx.state = .sentAllData

/-- In IDLE the head of `outgoing` is taken; it stays the head. -/
theorem State.Ok.rank_started {s : State} {q : PktId} {rest : List PktId} (h : s.Ok) (hst : s.tx.state = .idle)
    (hq : s.txq = q :: rest) (p : PktId) :
    (s.started q rest).outgoing = s.outgoing ∧ (s.started q rest).rank p < s.rank p := by
  have hidle := h.txUnbound.1 hst
  have same : (s.started q rest).outgoing = s.outgoing := by rw [State.outgoing_idle hidle, hq]; rfl
  have hlen := (State.lengthOf (s.started q rest) q).isLt
  have nearer : (s.started q rest).toEnd < s.toEnd := by
    rw [State.toEnd_idle hidle, State.toEnd_busy (q := q) rfl]
    simp only [TxEngine.toEnd, State.started, State.sent] at hlen ⊢
    omega
  rw [State.rank, State.rank, same]
  exact ⟨rfl, Nat.add_lt_add_left nearer _⟩

/-- A step before END leaves the packets on their way as they are. -/
theorem State.rank_sent {s : State} {q : PktId} {w : List Byte} {r : Bool} {x : TxEngine} (hq : s.tx.pkt = some q)
    (hx : x.pkt = some q) (hend : x.toEnd (s.lengthOf q) < s.tx.toEnd (s.lengthOf q)) (p : PktId) :
    (s.sent w r x).outgoing = s.outgoing ∧ (s.sent w r x).rank p < s.rank p := by
  have same : (s.sent w r x).outgoing = s.outgoing := by
    rw [State.outgoing_busy hq, State.outgoing_busy (q := q) hx]; rfl
  have nearer : (s.sent w r x).toEnd < s.toEnd := by
    rw [State.toEnd_busy hq, State.toEnd_busy (q := q) hx, State.lengthOf_sent]
    exact hend
  rw [State.rank, State.rank, same]
  exact ⟨rfl, Nat.add_lt_add_left nearer _⟩

theorem State.pkt_txEnd (s : State) (q : PktId) : (s.txEnd q).tx.pkt = none := by cases q <;> rfl

theorem State.txq_txEnd (s : State) (q : PktId) : (s.txEnd q).txq = s.txq := by cases q <;> rfl

/-- The END of another packet leaves one packet fewer before `p`. -/
theorem State.rank_txEnd {s : State} {p q : PktId} (hq : s.tx.pkt = some q) (hp : p ∈ s.outgoing) (hne : q ≠ p) :
    p ∈ (s.txEnd q).outgoing ∧ (s.txEnd q).rank p < s.rank p := by
  have hidle := s.pkt_txEnd q
  rw [State.rank, State.rank, State.toEnd_idle hidle, State.outgoing_idle hidle, s.txq_txEnd]
  rw [State.outgoing_busy hq] at hp ⊢
  rw [List.idxOf_cons_ne _ hne]
  exact ⟨(List.mem_cons.1 hp).resolve_left hne.symm, by omega⟩

/-- A step of TXE ends `p`, or it brings the END of `p` nearer. -/
theorem State.Ok.txStep_rank {s : State} {p : PktId} (h : s.Ok) (admits : s.AdmitsAll) (hp : p ∈ s.outgoing) :
    ∃ t, s.txStep = some t ∧ (s.Ends p ∧ t = s.txEnd p ∨ p ∈ t.outgoing ∧ t.rank p < s.rank p) := by
  cases hq : s.tx.pkt with
  | none =>
    have hst := h.txUnbound.2 hq
    cases htxq : s.txq with
    | nil => simp [State.outgoing_idle hq, htxq] at hp
    | cons q rest =>
      obtain ⟨same, lower⟩ := h.rank_started hst htxq p
      exact ⟨_, State.txStep_idle_head hst htxq, .inr ⟨same ▸ hp, lower⟩⟩
  | some q =>
    obtain hst | ⟨b, x, hstep, hx, hend⟩ := h.txStep_nearer admits hq
    · refine ⟨_, State.txStep_sentAllData hq hst, ?_⟩
      by_cases hqp : q = p
      · subst hqp
        exact .inl ⟨⟨hq, hst⟩, rfl⟩
      · exact .inr (State.rank_txEnd hq hp hqp)
    · obtain ⟨same, lower⟩ := State.rank_sent (w := [b]) (r := false) hq hx hend p
      exact ⟨_, hstep, .inr ⟨same ▸ hp, lower⟩⟩

theorem completeFlags_done : ∀ f : Byte, f &&& 0x70 = 0x10 → completeFlags f &&& 0x30 = 0x20 := by decide

/-- What the END step does (R199, R266). -/
theorem State.Ok.ended {s : State} {p : PktId} (h : s.Ok) (hp : s.tx.pkt = some p) :
    (s.txEnd p).tx.state = .idle ∧ (s.txEnd p).link.wire = s.link.wire ++ [0xAE] ∧
      (s.txEnd p).flagsOf p &&& 0x30 = 0x20 := by
  have done : (s.txEnd p).flagsOf p = completeFlags (s.flagsOf p) := by
    have slot := h.located.hasSlot_of_tx hp
    cases p with
    | drv i =>
      obtain ⟨record, -⟩ := completed_txEnd slot
      exact congrArg DrvPkt.flags record
    | app g =>
      obtain ⟨record, -⟩ := completed_txEnd slot
      exact congrArg AppPkt.flags record
  exact ⟨by cases p <;> rfl, by rw [State.link_txEnd]; rfl, by rw [done]; exact completeFlags_done _ (h.sending p hp).2⟩

/-- A turn ends `p`, or leaves it on its way; a step offered to TXE brings its END nearer. -/
theorem State.Ok.turn_progress {s t : State} {d : Draw} {p : PktId} (h : s.Ok) (admits : s.AdmitsAll)
    (hp : p ∈ s.outgoing) (ht : s.turn d = .next t) (hreset : d ≠ .reset) :
    s.Ends p ∧ t = s.txEnd p ∨ p ∈ t.outgoing ∧ t.rank p ≤ s.rank p ∧
      (s.txie = false ∨ s.link.txReady = true ∧ d = .txe → t.rank p < s.rank p) := by
  have hie := h.txie_of_outgoing hp
  by_cases htxe : d = .txe
  · subst htxe
    cases ht
    by_cases hready : s.link.txReady = true
    · obtain ⟨t, hstep, progress⟩ := h.txStep_rank admits hp
      rw [State.txTurn_on hready hie hstep]
      exact progress.imp_right fun ⟨hout, lower⟩ => ⟨hout, lower.le, fun _ => lower⟩
    · rw [State.txTurn_off fun on => hready on.1]
      exact .inr ⟨hp, le_rfl, by simp [hie, hready]⟩
  · obtain ⟨hout, same⟩ := h.turn_rank ht htxe hreset hp
    exact .inr ⟨hout, same.le, by simp [hie, htxe]⟩

/-! ### Executions -/

/-- Commands leave the launch's constants alone, and so do the foreground's accesses (R6, R366). -/
theorem State.fgTurn_cfg {s t : State} (ht : s.fgTurn = .next t) : t.cfg = s.cfg := by
  obtain ⟨w, f, -, hrun⟩ | ⟨a, b, rest, -, -, rfl⟩ | ⟨f, r, o, rfl⟩ := State.fgTurn_cases ht
  · unfold State.runCommand at hrun
    split at hrun
    · have outside := exec_outside hrun
      simp only [State.outside, Prod.mk.injEq] at outside
      obtain ⟨-, -, -, -, -, cfg, -⟩ := outside
      exact cfg
    · cases hrun; rfl
  · obtain ⟨m, o, eq⟩ := State.hostWrite_eq { s with fg := { s.fg with ops := rest } } a b
    rw [eq]
  · rfl

theorem State.turn_cfg {s t : State} {d : Draw} (ht : s.turn d = .next t) : t.cfg = s.cfg := by
  cases d with
  | fg => exact State.fgTurn_cfg ht
  | rxe => cases ht; obtain ⟨-, -, -, -, cfg, -⟩ := s.sameOutside_rxTurn; exact cfg
  | txe => cases ht; obtain ⟨-, -, -, -, cfg, -⟩ := s.sameOutside_txTurn; exact cfg
  | linkByte => cases ht; obtain ⟨-, -, -, -, cfg, -⟩ := s.sameOutside_linkPresent; exact cfg
  | linkReady r => cases ht; rfl
  | reset => cases ht; rfl

/-- The invariant and the admitted memory last. -/
theorem Execution.ok {r : Nat → State} {d : Nat → Draw} (run : Execution r d) (h : (r 0).Ok)
    (admits : (r 0).AdmitsAll) : ∀ n, (r n).Ok ∧ (r n).AdmitsAll
  | 0 => ⟨h, admits⟩
  | n + 1 =>
    have ⟨hn, an⟩ := Execution.ok run h admits n
    ⟨hn.turn (run n), an.of_cfg (State.turn_cfg (run n))⟩

/-- If a goal that is pending stays so, with a rank that never rises and that falls when a fair event fires, then the
goal is reached. -/
theorem exists_of_rank {pend goal fire : Nat → Prop} {rank : Nat → Nat} (fair : ∀ n, pend n → ∃ m ≥ n, fire m)
    (next : ∀ n, pend n → goal n ∨ pend (n + 1) ∧ rank (n + 1) ≤ rank n ∧ (fire n → rank (n + 1) < rank n))
    (n : Nat) (hn : pend n) : ∃ m ≥ n, goal m := by
  induction hk : rank n using Nat.strong_induction_on generalizing n with
  | _ k ih =>
    obtain ⟨m, hm, hfire⟩ := fair n hn
    obtain ⟨j, rfl⟩ := Nat.exists_eq_add_of_le hm
    clear hm
    induction j generalizing n with
    | zero =>
      obtain done | ⟨hpend, -, falls⟩ := next n hn
      · exact ⟨n, le_rfl, done⟩
      · obtain ⟨i, hi, done⟩ := ih _ (hk ▸ falls hfire) (n + 1) hpend rfl
        exact ⟨i, Nat.le_of_succ_le hi, done⟩
    | succ j wait =>
      obtain done | ⟨hpend, hle, -⟩ := next n hn
      · exact ⟨n, le_rfl, done⟩
      · obtain ⟨i, hi, done⟩ : ∃ i ≥ n + 1, goal i := by
          obtain hlt | heq := hle.lt_or_eq
          · exact ih _ (hk ▸ hlt) (n + 1) hpend rfl
          · exact wait (n + 1) hpend (heq.trans hk) (by rwa [Nat.add_right_comm])
        exact ⟨i, Nat.le_of_succ_le hi, done⟩

/-- Settles O54: the rank of a packet on its way leads to its END, and RXE's next turn consumes the byte that waits. -/
theorem fairExecutionsMakeProgress : Obligations.FairExecutionsMakeProgress := by
  rintro r d run ⟨fairRx, fairTx, -⟩ hreset hinv hadmits
  have last := Execution.ok run (State.inv_iff.1 hinv) hadmits
  refine ⟨fun n p hp => ?_, fun n b hb => ?_⟩
  · obtain ⟨m, hm, ⟨hpkt, hst⟩, hend⟩ :=
      exists_of_rank (rank := fun n => (r n).rank p) (goal := fun n => (r n).Ends p ∧ r (n + 1) = (r n).txEnd p)
        (fun n _ => fairTx n)
        (fun n hout => have ⟨h, admits⟩ := last n; h.turn_progress admits hout (run n) (hreset n))
        n (State.mem_outgoing.2 hp)
    have ⟨h, _⟩ := last m
    obtain ⟨idle, wire, done⟩ := h.ended hpkt
    exact ⟨m, hm, hpkt, hst, hend ▸ idle, hend ▸ wire, hend ▸ done⟩
  · refine exists_of_rank (pend := fun n => (r n).link.rxData = some b) (rank := fun _ => 0)
      (fire := fun n => d n = .rxe) (fun n hb => fairRx n (by simp [hb])) (fun n hb => ?_) n hb
    by_cases hd : d n = .rxe
    · have ⟨h, admits⟩ := last n
      have taken := run n
      rw [hd] at taken
      rw [← Host.Outcome.next.inj taken]
      exact .inl ⟨hd, hb, h.rxTurn_consumes admits hb⟩
    · exact .inr ⟨State.turn_keepsByte hb (run n) hd, le_rfl, fun hrxe => absurd hrxe hd⟩

end Sys2Proof.Machine
end
